-- ==== Sys2Proof/Word.lean ====
section
/-! DEFINITION. The word types of the T-HMI-C64 core (`00_scope.md` R12). -/

namespace Sys2Proof

/-- A byte: 8 bits, the only access width of the machine (R12, R100). -/
abbrev Byte := BitVec 8

/-- A word: 16 bits; every address and the program counter (R12, R23). -/
abbrev Word := BitVec 16

/-- A 16-bit pixel value of the display sink (R47, R425). -/
abbrev Pixel := BitVec 16

end Sys2Proof
end

