-- ==== Sys2Proof/Syntax.lean ====
section
/-! DEFINITION. The instructions of the two instruction sets of the core: one constructor per row of the opcode table.
CPU instructions (`30_encoding.md` R130, R131): the mnemonic and the addressing mode name the constructor, the argument is the
operand as fetched (R140 to R152). Constructors with an operand come first, in the order of the opcodes, then the display-list
instructions, then those without an operand. Display-list instructions (`47_display_list.md` R303): the modifier bits and the operand. -/

namespace Sys2Proof

/-- Every row of the opcode table (R131, R155, R303). -/
inductive Instr where
  /-- 0x01 `ORA (z,X)` (R232) -/
  | oraIndx (z : Byte)
  /-- 0x05 `ORA z` (R232) -/
  | oraZp (z : Byte)
  /-- 0x06 `ASL z` (R235) -/
  | aslZp (z : Byte)
  /-- 0x09 `ORA #m` (R232) -/
  | oraImm (m : Byte)
  /-- 0x0D `ORA w` (R232) -/
  | oraAbs (w : Word)
  /-- 0x0E `ASL w` (R235) -/
  | aslAbs (w : Word)
  /-- 0x10 `BPL d` (R256) -/
  | bpl (d : Byte)
  /-- 0x11 `ORA (z),Y` (R232) -/
  | oraIndy (z : Byte)
  /-- 0x15 `ORA z,X` (R232) -/
  | oraZpx (z : Byte)
  /-- 0x16 `ASL z,X` (R235) -/
  | aslZpx (z : Byte)
  /-- 0x19 `ORA w,Y` (R232) -/
  | oraAbsy (w : Word)
  /-- 0x1D `ORA w,X` (R232) -/
  | oraAbsx (w : Word)
  /-- 0x1E `ASL w,X` (R235) -/
  | aslAbsx (w : Word)
  /-- 0x20 `JSR w` (R262) -/
  | jsr (w : Word)
  /-- 0x21 `AND (z,X)` (R231) -/
  | andIndx (z : Byte)
  /-- 0x24 `BIT z` (R234) -/
  | bitZp (z : Byte)
  /-- 0x25 `AND z` (R231) -/
  | andZp (z : Byte)
  /-- 0x26 `ROL z` (R237) -/
  | rolZp (z : Byte)
  /-- 0x29 `AND #m` (R231) -/
  | andImm (m : Byte)
  /-- 0x2C `BIT w` (R234) -/
  | bitAbs (w : Word)
  /-- 0x2D `AND w` (R231) -/
  | andAbs (w : Word)
  /-- 0x2E `ROL w` (R237) -/
  | rolAbs (w : Word)
  /-- 0x30 `BMI d` (R255) -/
  | bmi (d : Byte)
  /-- 0x31 `AND (z),Y` (R231) -/
  | andIndy (z : Byte)
  /-- 0x35 `AND z,X` (R231) -/
  | andZpx (z : Byte)
  /-- 0x36 `ROL z,X` (R237) -/
  | rolZpx (z : Byte)
  /-- 0x39 `AND w,Y` (R231) -/
  | andAbsy (w : Word)
  /-- 0x3D `AND w,X` (R231) -/
  | andAbsx (w : Word)
  /-- 0x3E `ROL w,X` (R237) -/
  | rolAbsx (w : Word)
  /-- 0x41 `EOR (z,X)` (R233) -/
  | eorIndx (z : Byte)
  /-- 0x45 `EOR z` (R233) -/
  | eorZp (z : Byte)
  /-- 0x46 `LSR z` (R236) -/
  | lsrZp (z : Byte)
  /-- 0x49 `EOR #m` (R233) -/
  | eorImm (m : Byte)
  /-- 0x4C `JMP w` (R260) -/
  | jmpAbs (w : Word)
  /-- 0x4D `EOR w` (R233) -/
  | eorAbs (w : Word)
  /-- 0x4E `LSR w` (R236) -/
  | lsrAbs (w : Word)
  /-- 0x50 `BVC d` (R257) -/
  | bvc (d : Byte)
  /-- 0x51 `EOR (z),Y` (R233) -/
  | eorIndy (z : Byte)
  /-- 0x55 `EOR z,X` (R233) -/
  | eorZpx (z : Byte)
  /-- 0x56 `LSR z,X` (R236) -/
  | lsrZpx (z : Byte)
  /-- 0x59 `EOR w,Y` (R233) -/
  | eorAbsy (w : Word)
  /-- 0x5D `EOR w,X` (R233) -/
  | eorAbsx (w : Word)
  /-- 0x5E `LSR w,X` (R236) -/
  | lsrAbsx (w : Word)
  /-- 0x61 `ADC (z,X)` (R202) -/
  | adcIndx (z : Byte)
  /-- 0x65 `ADC z` (R202) -/
  | adcZp (z : Byte)
  /-- 0x66 `ROR z` (R238) -/
  | rorZp (z : Byte)
  /-- 0x69 `ADC #m` (R202) -/
  | adcImm (m : Byte)
  /-- 0x6C `JMP (w)` (R261) -/
  | jmpInd (w : Word)
  /-- 0x6D `ADC w` (R202) -/
  | adcAbs (w : Word)
  /-- 0x6E `ROR w` (R238) -/
  | rorAbs (w : Word)
  /-- 0x70 `BVS d` (R258) -/
  | bvs (d : Byte)
  /-- 0x71 `ADC (z),Y` (R202) -/
  | adcIndy (z : Byte)
  /-- 0x75 `ADC z,X` (R202) -/
  | adcZpx (z : Byte)
  /-- 0x76 `ROR z,X` (R238) -/
  | rorZpx (z : Byte)
  /-- 0x79 `ADC w,Y` (R202) -/
  | adcAbsy (w : Word)
  /-- 0x7D `ADC w,X` (R202) -/
  | adcAbsx (w : Word)
  /-- 0x7E `ROR w,X` (R238) -/
  | rorAbsx (w : Word)
  /-- 0x81 `STA (z,X)` (R174) -/
  | staIndx (z : Byte)
  /-- 0x84 `STY z` (R176) -/
  | styZp (z : Byte)
  /-- 0x85 `STA z` (R174) -/
  | staZp (z : Byte)
  /-- 0x86 `STX z` (R175) -/
  | stxZp (z : Byte)
  /-- 0x8C `STY w` (R176) -/
  | styAbs (w : Word)
  /-- 0x8D `STA w` (R174) -/
  | staAbs (w : Word)
  /-- 0x8E `STX w` (R175) -/
  | stxAbs (w : Word)
  /-- 0x90 `BCC d` (R251) -/
  | bcc (d : Byte)
  /-- 0x91 `STA (z),Y` (R174) -/
  | staIndy (z : Byte)
  /-- 0x94 `STY z,X` (R176) -/
  | styZpx (z : Byte)
  /-- 0x95 `STA z,X` (R174) -/
  | staZpx (z : Byte)
  /-- 0x96 `STX z,Y` (R175) -/
  | stxZpy (z : Byte)
  /-- 0x99 `STA w,Y` (R174) -/
  | staAbsy (w : Word)
  /-- 0x9D `STA w,X` (R174) -/
  | staAbsx (w : Word)
  /-- 0xA0 `LDY #m` (R173) -/
  | ldyImm (m : Byte)
  /-- 0xA1 `LDA (z,X)` (R171) -/
  | ldaIndx (z : Byte)
  /-- 0xA2 `LDX #m` (R172) -/
  | ldxImm (m : Byte)
  /-- 0xA4 `LDY z` (R173) -/
  | ldyZp (z : Byte)
  /-- 0xA5 `LDA z` (R171) -/
  | ldaZp (z : Byte)
  /-- 0xA6 `LDX z` (R172) -/
  | ldxZp (z : Byte)
  /-- 0xA9 `LDA #m` (R171) -/
  | ldaImm (m : Byte)
  /-- 0xAC `LDY w` (R173) -/
  | ldyAbs (w : Word)
  /-- 0xAD `LDA w` (R171) -/
  | ldaAbs (w : Word)
  /-- 0xAE `LDX w` (R172) -/
  | ldxAbs (w : Word)
  /-- 0xB0 `BCS d` (R252) -/
  | bcs (d : Byte)
  /-- 0xB1 `LDA (z),Y` (R171) -/
  | ldaIndy (z : Byte)
  /-- 0xB4 `LDY z,X` (R173) -/
  | ldyZpx (z : Byte)
  /-- 0xB5 `LDA z,X` (R171) -/
  | ldaZpx (z : Byte)
  /-- 0xB6 `LDX z,Y` (R172) -/
  | ldxZpy (z : Byte)
  /-- 0xB9 `LDA w,Y` (R171) -/
  | ldaAbsy (w : Word)
  /-- 0xBC `LDY w,X` (R173) -/
  | ldyAbsx (w : Word)
  /-- 0xBD `LDA w,X` (R171) -/
  | ldaAbsx (w : Word)
  /-- 0xBE `LDX w,Y` (R172) -/
  | ldxAbsy (w : Word)
  /-- 0xC0 `CPY #m` (R211) -/
  | cpyImm (m : Byte)
  /-- 0xC1 `CMP (z,X)` (R209) -/
  | cmpIndx (z : Byte)
  /-- 0xC4 `CPY z` (R211) -/
  | cpyZp (z : Byte)
  /-- 0xC5 `CMP z` (R209) -/
  | cmpZp (z : Byte)
  /-- 0xC6 `DEC z` (R213) -/
  | decZp (z : Byte)
  /-- 0xC9 `CMP #m` (R209) -/
  | cmpImm (m : Byte)
  /-- 0xCC `CPY w` (R211) -/
  | cpyAbs (w : Word)
  /-- 0xCD `CMP w` (R209) -/
  | cmpAbs (w : Word)
  /-- 0xCE `DEC w` (R213) -/
  | decAbs (w : Word)
  /-- 0xD0 `BNE d` (R254) -/
  | bne (d : Byte)
  /-- 0xD1 `CMP (z),Y` (R209) -/
  | cmpIndy (z : Byte)
  /-- 0xD5 `CMP z,X` (R209) -/
  | cmpZpx (z : Byte)
  /-- 0xD6 `DEC z,X` (R213) -/
  | decZpx (z : Byte)
  /-- 0xD9 `CMP w,Y` (R209) -/
  | cmpAbsy (w : Word)
  /-- 0xDD `CMP w,X` (R209) -/
  | cmpAbsx (w : Word)
  /-- 0xDE `DEC w,X` (R213) -/
  | decAbsx (w : Word)
  /-- 0xE0 `CPX #m` (R210) -/
  | cpxImm (m : Byte)
  /-- 0xE1 `SBC (z,X)` (R205) -/
  | sbcIndx (z : Byte)
  /-- 0xE4 `CPX z` (R210) -/
  | cpxZp (z : Byte)
  /-- 0xE5 `SBC z` (R205) -/
  | sbcZp (z : Byte)
  /-- 0xE6 `INC z` (R212) -/
  | incZp (z : Byte)
  /-- 0xE9 `SBC #m` (R205) -/
  | sbcImm (m : Byte)
  /-- 0xEC `CPX w` (R210) -/
  | cpxAbs (w : Word)
  /-- 0xED `SBC w` (R205) -/
  | sbcAbs (w : Word)
  /-- 0xEE `INC w` (R212) -/
  | incAbs (w : Word)
  /-- 0xF0 `BEQ d` (R253) -/
  | beq (d : Byte)
  /-- 0xF1 `SBC (z),Y` (R205) -/
  | sbcIndy (z : Byte)
  /-- 0xF5 `SBC z,X` (R205) -/
  | sbcZpx (z : Byte)
  /-- 0xF6 `INC z,X` (R212) -/
  | incZpx (z : Byte)
  /-- 0xF9 `SBC w,Y` (R205) -/
  | sbcAbsy (w : Word)
  /-- 0xFD `SBC w,X` (R205) -/
  | sbcAbsx (w : Word)
  /-- 0xFE `INC w,X` (R212) -/
  | incAbsx (w : Word)
  /-- `BLANK n`, `n = count + 1` (R305); bits 5 and 4 of the byte are part of the count -/
  | dlBlank (dli : Bool) (count : BitVec 3)
  /-- `JMP addr` (R306) -/
  | dlJmp (dli vs hs : Bool) (addr : Word)
  /-- `JVB addr`, jump and wait for vertical blank (R307) -/
  | dlJvb (dli vs hs : Bool) (addr : Word)
  /-- `MODE mode`, `mode` = 2 to 15 (R308) -/
  | dlMode (dli vs hs : Bool) (mode : BitVec 4)
  /-- `MODE mode +LMS addr`, `mode` = 2 to 15 (R308, R309) -/
  | dlModeLms (dli vs hs : Bool) (mode : BitVec 4) (addr : Word)
  /-- 0x00 `BRK` (R281) -/
  | brk
  /-- 0x02 `undocumented opcode byte 0x02` (R290) -/
  | undoc02
  /-- 0x03 `undocumented opcode byte 0x03` (R290) -/
  | undoc03
  /-- 0x04 `undocumented opcode byte 0x04` (R290) -/
  | undoc04
  /-- 0x07 `undocumented opcode byte 0x07` (R290) -/
  | undoc07
  /-- 0x08 `PHP` (R192) -/
  | php
  /-- 0x0A `ASL A` (R235) -/
  | aslAcc
  /-- 0x0B `undocumented opcode byte 0x0B` (R290) -/
  | undoc0B
  /-- 0x0C `undocumented opcode byte 0x0C` (R290) -/
  | undoc0C
  /-- 0x0F `undocumented opcode byte 0x0F` (R290) -/
  | undoc0F
  /-- 0x12 `undocumented opcode byte 0x12` (R290) -/
  | undoc12
  /-- 0x13 `undocumented opcode byte 0x13` (R290) -/
  | undoc13
  /-- 0x14 `undocumented opcode byte 0x14` (R290) -/
  | undoc14
  /-- 0x17 `undocumented opcode byte 0x17` (R290) -/
  | undoc17
  /-- 0x18 `CLC` (R271) -/
  | clc
  /-- 0x1A `undocumented opcode byte 0x1A` (R290) -/
  | undoc1A
  /-- 0x1B `undocumented opcode byte 0x1B` (R290) -/
  | undoc1B
  /-- 0x1C `undocumented opcode byte 0x1C` (R290) -/
  | undoc1C
  /-- 0x1F `undocumented opcode byte 0x1F` (R290) -/
  | undoc1F
  /-- 0x22 `undocumented opcode byte 0x22` (R290) -/
  | undoc22
  /-- 0x23 `undocumented opcode byte 0x23` (R290) -/
  | undoc23
  /-- 0x27 `undocumented opcode byte 0x27` (R290) -/
  | undoc27
  /-- 0x28 `PLP` (R194) -/
  | plp
  /-- 0x2A `ROL A` (R237) -/
  | rolAcc
  /-- 0x2B `undocumented opcode byte 0x2B` (R290) -/
  | undoc2B
  /-- 0x2F `undocumented opcode byte 0x2F` (R290) -/
  | undoc2F
  /-- 0x32 `undocumented opcode byte 0x32` (R290) -/
  | undoc32
  /-- 0x33 `undocumented opcode byte 0x33` (R290) -/
  | undoc33
  /-- 0x34 `undocumented opcode byte 0x34` (R290) -/
  | undoc34
  /-- 0x37 `undocumented opcode byte 0x37` (R290) -/
  | undoc37
  /-- 0x38 `SEC` (R272) -/
  | sec
  /-- 0x3A `undocumented opcode byte 0x3A` (R290) -/
  | undoc3A
  /-- 0x3B `undocumented opcode byte 0x3B` (R290) -/
  | undoc3B
  /-- 0x3C `undocumented opcode byte 0x3C` (R290) -/
  | undoc3C
  /-- 0x3F `undocumented opcode byte 0x3F` (R290) -/
  | undoc3F
  /-- 0x40 `RTI` (R282) -/
  | rti
  /-- 0x42 `undocumented opcode byte 0x42` (R290) -/
  | undoc42
  /-- 0x43 `undocumented opcode byte 0x43` (R290) -/
  | undoc43
  /-- 0x44 `undocumented opcode byte 0x44` (R290) -/
  | undoc44
  /-- 0x47 `undocumented opcode byte 0x47` (R290) -/
  | undoc47
  /-- 0x48 `PHA` (R191) -/
  | pha
  /-- 0x4A `LSR A` (R236) -/
  | lsrAcc
  /-- 0x4B `undocumented opcode byte 0x4B` (R290) -/
  | undoc4B
  /-- 0x4F `undocumented opcode byte 0x4F` (R290) -/
  | undoc4F
  /-- 0x52 `undocumented opcode byte 0x52` (R290) -/
  | undoc52
  /-- 0x53 `undocumented opcode byte 0x53` (R290) -/
  | undoc53
  /-- 0x54 `undocumented opcode byte 0x54` (R290) -/
  | undoc54
  /-- 0x57 `undocumented opcode byte 0x57` (R290) -/
  | undoc57
  /-- 0x58 `CLI` (R273) -/
  | cli
  /-- 0x5A `undocumented opcode byte 0x5A` (R290) -/
  | undoc5A
  /-- 0x5B `undocumented opcode byte 0x5B` (R290) -/
  | undoc5B
  /-- 0x5C `undocumented opcode byte 0x5C` (R290) -/
  | undoc5C
  /-- 0x5F `undocumented opcode byte 0x5F` (R290) -/
  | undoc5F
  /-- 0x60 `RTS` (R263) -/
  | rts
  /-- 0x62 `undocumented opcode byte 0x62` (R290) -/
  | undoc62
  /-- 0x63 `undocumented opcode byte 0x63` (R290) -/
  | undoc63
  /-- 0x64 `undocumented opcode byte 0x64` (R290) -/
  | undoc64
  /-- 0x67 `undocumented opcode byte 0x67` (R290) -/
  | undoc67
  /-- 0x68 `PLA` (R193) -/
  | pla
  /-- 0x6A `ROR A` (R238) -/
  | rorAcc
  /-- 0x6B `undocumented opcode byte 0x6B` (R290) -/
  | undoc6B
  /-- 0x6F `undocumented opcode byte 0x6F` (R290) -/
  | undoc6F
  /-- 0x72 `undocumented opcode byte 0x72` (R290) -/
  | undoc72
  /-- 0x73 `undocumented opcode byte 0x73` (R290) -/
  | undoc73
  /-- 0x74 `undocumented opcode byte 0x74` (R290) -/
  | undoc74
  /-- 0x77 `undocumented opcode byte 0x77` (R290) -/
  | undoc77
  /-- 0x78 `SEI` (R274) -/
  | sei
  /-- 0x7A `undocumented opcode byte 0x7A` (R290) -/
  | undoc7A
  /-- 0x7B `undocumented opcode byte 0x7B` (R290) -/
  | undoc7B
  /-- 0x7C `undocumented opcode byte 0x7C` (R290) -/
  | undoc7C
  /-- 0x7F `undocumented opcode byte 0x7F` (R290) -/
  | undoc7F
  /-- 0x80 `undocumented opcode byte 0x80` (R290) -/
  | undoc80
  /-- 0x82 `undocumented opcode byte 0x82` (R290) -/
  | undoc82
  /-- 0x83 `undocumented opcode byte 0x83` (R290) -/
  | undoc83
  /-- 0x87 `undocumented opcode byte 0x87` (R290) -/
  | undoc87
  /-- 0x88 `DEY` (R217) -/
  | dey
  /-- 0x89 `undocumented opcode byte 0x89` (R290) -/
  | undoc89
  /-- 0x8A `TXA` (R179) -/
  | txa
  /-- 0x8B `undocumented opcode byte 0x8B` (R290) -/
  | undoc8B
  /-- 0x8F `undocumented opcode byte 0x8F` (R290) -/
  | undoc8F
  /-- 0x92 `undocumented opcode byte 0x92` (R290) -/
  | undoc92
  /-- 0x93 `undocumented opcode byte 0x93` (R290) -/
  | undoc93
  /-- 0x97 `undocumented opcode byte 0x97` (R290) -/
  | undoc97
  /-- 0x98 `TYA` (R180) -/
  | tya
  /-- 0x9A `TXS` (R182) -/
  | txs
  /-- 0x9B `undocumented opcode byte 0x9B` (R290) -/
  | undoc9B
  /-- 0x9C `undocumented opcode byte 0x9C` (R290) -/
  | undoc9C
  /-- 0x9E `undocumented opcode byte 0x9E` (R290) -/
  | undoc9E
  /-- 0x9F `undocumented opcode byte 0x9F` (R290) -/
  | undoc9F
  /-- 0xA3 `undocumented opcode byte 0xA3` (R290) -/
  | undocA3
  /-- 0xA7 `undocumented opcode byte 0xA7` (R290) -/
  | undocA7
  /-- 0xA8 `TAY` (R178) -/
  | tay
  /-- 0xAA `TAX` (R177) -/
  | tax
  /-- 0xAB `undocumented opcode byte 0xAB` (R290) -/
  | undocAB
  /-- 0xAF `undocumented opcode byte 0xAF` (R290) -/
  | undocAF
  /-- 0xB2 `undocumented opcode byte 0xB2` (R290) -/
  | undocB2
  /-- 0xB3 `undocumented opcode byte 0xB3` (R290) -/
  | undocB3
  /-- 0xB7 `undocumented opcode byte 0xB7` (R290) -/
  | undocB7
  /-- 0xB8 `CLV` (R277) -/
  | clv
  /-- 0xBA `TSX` (R181) -/
  | tsx
  /-- 0xBB `undocumented opcode byte 0xBB` (R290) -/
  | undocBB
  /-- 0xBF `undocumented opcode byte 0xBF` (R290) -/
  | undocBF
  /-- 0xC2 `undocumented opcode byte 0xC2` (R290) -/
  | undocC2
  /-- 0xC3 `undocumented opcode byte 0xC3` (R290) -/
  | undocC3
  /-- 0xC7 `undocumented opcode byte 0xC7` (R290) -/
  | undocC7
  /-- 0xC8 `INY` (R215) -/
  | iny
  /-- 0xCA `DEX` (R216) -/
  | dex
  /-- 0xCB `undocumented opcode byte 0xCB` (R290) -/
  | undocCB
  /-- 0xCF `undocumented opcode byte 0xCF` (R290) -/
  | undocCF
  /-- 0xD2 `undocumented opcode byte 0xD2` (R290) -/
  | undocD2
  /-- 0xD3 `undocumented opcode byte 0xD3` (R290) -/
  | undocD3
  /-- 0xD4 `undocumented opcode byte 0xD4` (R290) -/
  | undocD4
  /-- 0xD7 `undocumented opcode byte 0xD7` (R290) -/
  | undocD7
  /-- 0xD8 `CLD` (R275) -/
  | cld
  /-- 0xDA `undocumented opcode byte 0xDA` (R290) -/
  | undocDA
  /-- 0xDB `undocumented opcode byte 0xDB` (R290) -/
  | undocDB
  /-- 0xDC `undocumented opcode byte 0xDC` (R290) -/
  | undocDC
  /-- 0xDF `undocumented opcode byte 0xDF` (R290) -/
  | undocDF
  /-- 0xE2 `undocumented opcode byte 0xE2` (R290) -/
  | undocE2
  /-- 0xE3 `undocumented opcode byte 0xE3` (R290) -/
  | undocE3
  /-- 0xE7 `undocumented opcode byte 0xE7` (R290) -/
  | undocE7
  /-- 0xE8 `INX` (R214) -/
  | inx
  /-- 0xEA `NOP` (R278) -/
  | nop
  /-- 0xEB `undocumented opcode byte 0xEB` (R290) -/
  | undocEB
  /-- 0xEF `undocumented opcode byte 0xEF` (R290) -/
  | undocEF
  /-- 0xF2 `undocumented opcode byte 0xF2` (R290) -/
  | undocF2
  /-- 0xF3 `undocumented opcode byte 0xF3` (R290) -/
  | undocF3
  /-- 0xF4 `undocumented opcode byte 0xF4` (R290) -/
  | undocF4
  /-- 0xF7 `undocumented opcode byte 0xF7` (R290) -/
  | undocF7
  /-- 0xF8 `SED` (R276) -/
  | sed
  /-- 0xFA `undocumented opcode byte 0xFA` (R290) -/
  | undocFA
  /-- 0xFB `undocumented opcode byte 0xFB` (R290) -/
  | undocFB
  /-- 0xFC `undocumented opcode byte 0xFC` (R290) -/
  | undocFC
  /-- 0xFF `undocumented opcode byte 0xFF` (R290) -/
  | undocFF
  deriving DecidableEq, Repr

end Sys2Proof
end

