-- ==== Sys2Proof/WellFormed.lean ====
section
/-! DEFINITION. Which terms of `Instr` stand for an encoding of the spec. Every field is a bit vector of its encoded width, so
the one check left is that a display-list mode line names one of the modes 2 to 15 (`47_display_list.md` R303): mode numbers
0 and 1 are the blank-line and jump instructions. -/

namespace Sys2Proof

/-- `m` is the number of a mode line: 2 to 15 (R301, R303). -/
def modeLineNumber (m : BitVec 4) : Bool := decide (2 ≤ m.toNat)

/-- The term stands for an encoding of the spec (R131, R303). -/
def Instr.wellFormed : Instr → Bool
  | .dlMode _ _ _ m => modeLineNumber m
  | .dlModeLms _ _ _ m _ => modeLineNumber m
  | _ => true

end Sys2Proof
end

