-- ==== Sys2Proof/Decode.lean ====
section
/-! DEFINITION. Encodings. CPU: the opcode map of `30_encoding.md` R131, row by row, and the three formats of R121. Display
list: the decode table of `47_display_list.md` R303. The two instruction sets share byte values; which decoder reads a byte is
decided by the agent that fetches it (log entry 1). After the decoders, the encoder. -/

namespace Sys2Proof

/-! ## Byte order (R90) -/

/-- The word `{hi, lo}` of two bytes, the byte at the lower address first (R14, R90). -/
def wordOfBytes (lo hi : Byte) : Word := hi ++ lo
/-- `w[7:0]`. -/
def loByte (w : Word) : Byte := w.extractLsb' 0 8
/-- `w[15:8]`. -/
def hiByte (w : Word) : Byte := w.extractLsb' 8 8

/-! ## Decoders -/

/-- What an opcode byte decides (R120, R121): an instruction without operand bytes (F1, DL1), one with an operand byte (F2), or one
with a 16-bit operand of two bytes, low byte first (F3, DL3). -/
inductive OpEntry where
  | one (i : Instr)
  | two (f : Byte → Instr)
  | three (f : Word → Instr)

/-- Why a byte list is no instruction: there is no opcode byte, or the list ends before the operand does. No byte value is
rejected (R130, R303). -/
inductive DecodeError where
  /-- raised by the decoders on the empty list; safe -/
  | noOpcode
  /-- raised by the decoders when the operand bytes of `opcode` are missing; safe -/
  | missingOperand (opcode : Byte)
  deriving DecidableEq, Repr

/-- Row 0x of the opcode map (R131; `undoc..` where the map has `-`, R155). -/
def opRow0 : List OpEntry := [
  .one .brk, .two .oraIndx, .one .undoc02, .one .undoc03,
  .one .undoc04, .two .oraZp, .two .aslZp, .one .undoc07,
  .one .php, .two .oraImm, .one .aslAcc, .one .undoc0B,
  .one .undoc0C, .three .oraAbs, .three .aslAbs, .one .undoc0F]
/-- Row 1x of the opcode map (R131; `undoc..` where the map has `-`, R155). -/
def opRow1 : List OpEntry := [
  .two .bpl, .two .oraIndy, .one .undoc12, .one .undoc13,
  .one .undoc14, .two .oraZpx, .two .aslZpx, .one .undoc17,
  .one .clc, .three .oraAbsy, .one .undoc1A, .one .undoc1B,
  .one .undoc1C, .three .oraAbsx, .three .aslAbsx, .one .undoc1F]
/-- Row 2x of the opcode map (R131; `undoc..` where the map has `-`, R155). -/
def opRow2 : List OpEntry := [
  .three .jsr, .two .andIndx, .one .undoc22, .one .undoc23,
  .two .bitZp, .two .andZp, .two .rolZp, .one .undoc27,
  .one .plp, .two .andImm, .one .rolAcc, .one .undoc2B,
  .three .bitAbs, .three .andAbs, .three .rolAbs, .one .undoc2F]
/-- Row 3x of the opcode map (R131; `undoc..` where the map has `-`, R155). -/
def opRow3 : List OpEntry := [
  .two .bmi, .two .andIndy, .one .undoc32, .one .undoc33,
  .one .undoc34, .two .andZpx, .two .rolZpx, .one .undoc37,
  .one .sec, .three .andAbsy, .one .undoc3A, .one .undoc3B,
  .one .undoc3C, .three .andAbsx, .three .rolAbsx, .one .undoc3F]
/-- Row 4x of the opcode map (R131; `undoc..` where the map has `-`, R155). -/
def opRow4 : List OpEntry := [
  .one .rti, .two .eorIndx, .one .undoc42, .one .undoc43,
  .one .undoc44, .two .eorZp, .two .lsrZp, .one .undoc47,
  .one .pha, .two .eorImm, .one .lsrAcc, .one .undoc4B,
  .three .jmpAbs, .three .eorAbs, .three .lsrAbs, .one .undoc4F]
/-- Row 5x of the opcode map (R131; `undoc..` where the map has `-`, R155). -/
def opRow5 : List OpEntry := [
  .two .bvc, .two .eorIndy, .one .undoc52, .one .undoc53,
  .one .undoc54, .two .eorZpx, .two .lsrZpx, .one .undoc57,
  .one .cli, .three .eorAbsy, .one .undoc5A, .one .undoc5B,
  .one .undoc5C, .three .eorAbsx, .three .lsrAbsx, .one .undoc5F]
/-- Row 6x of the opcode map (R131; `undoc..` where the map has `-`, R155). -/
def opRow6 : List OpEntry := [
  .one .rts, .two .adcIndx, .one .undoc62, .one .undoc63,
  .one .undoc64, .two .adcZp, .two .rorZp, .one .undoc67,
  .one .pla, .two .adcImm, .one .rorAcc, .one .undoc6B,
  .three .jmpInd, .three .adcAbs, .three .rorAbs, .one .undoc6F]
/-- Row 7x of the opcode map (R131; `undoc..` where the map has `-`, R155). -/
def opRow7 : List OpEntry := [
  .two .bvs, .two .adcIndy, .one .undoc72, .one .undoc73,
  .one .undoc74, .two .adcZpx, .two .rorZpx, .one .undoc77,
  .one .sei, .three .adcAbsy, .one .undoc7A, .one .undoc7B,
  .one .undoc7C, .three .adcAbsx, .three .rorAbsx, .one .undoc7F]
/-- Row 8x of the opcode map (R131; `undoc..` where the map has `-`, R155). -/
def opRow8 : List OpEntry := [
  .one .undoc80, .two .staIndx, .one .undoc82, .one .undoc83,
  .two .styZp, .two .staZp, .two .stxZp, .one .undoc87,
  .one .dey, .one .undoc89, .one .txa, .one .undoc8B,
  .three .styAbs, .three .staAbs, .three .stxAbs, .one .undoc8F]
/-- Row 9x of the opcode map (R131; `undoc..` where the map has `-`, R155). -/
def opRow9 : List OpEntry := [
  .two .bcc, .two .staIndy, .one .undoc92, .one .undoc93,
  .two .styZpx, .two .staZpx, .two .stxZpy, .one .undoc97,
  .one .tya, .three .staAbsy, .one .txs, .one .undoc9B,
  .one .undoc9C, .three .staAbsx, .one .undoc9E, .one .undoc9F]
/-- Row Ax of the opcode map (R131; `undoc..` where the map has `-`, R155). -/
def opRowA : List OpEntry := [
  .two .ldyImm, .two .ldaIndx, .two .ldxImm, .one .undocA3,
  .two .ldyZp, .two .ldaZp, .two .ldxZp, .one .undocA7,
  .one .tay, .two .ldaImm, .one .tax, .one .undocAB,
  .three .ldyAbs, .three .ldaAbs, .three .ldxAbs, .one .undocAF]
/-- Row Bx of the opcode map (R131; `undoc..` where the map has `-`, R155). -/
def opRowB : List OpEntry := [
  .two .bcs, .two .ldaIndy, .one .undocB2, .one .undocB3,
  .two .ldyZpx, .two .ldaZpx, .two .ldxZpy, .one .undocB7,
  .one .clv, .three .ldaAbsy, .one .tsx, .one .undocBB,
  .three .ldyAbsx, .three .ldaAbsx, .three .ldxAbsy, .one .undocBF]
/-- Row Cx of the opcode map (R131; `undoc..` where the map has `-`, R155). -/
def opRowC : List OpEntry := [
  .two .cpyImm, .two .cmpIndx, .one .undocC2, .one .undocC3,
  .two .cpyZp, .two .cmpZp, .two .decZp, .one .undocC7,
  .one .iny, .two .cmpImm, .one .dex, .one .undocCB,
  .three .cpyAbs, .three .cmpAbs, .three .decAbs, .one .undocCF]
/-- Row Dx of the opcode map (R131; `undoc..` where the map has `-`, R155). -/
def opRowD : List OpEntry := [
  .two .bne, .two .cmpIndy, .one .undocD2, .one .undocD3,
  .one .undocD4, .two .cmpZpx, .two .decZpx, .one .undocD7,
  .one .cld, .three .cmpAbsy, .one .undocDA, .one .undocDB,
  .one .undocDC, .three .cmpAbsx, .three .decAbsx, .one .undocDF]
/-- Row Ex of the opcode map (R131; `undoc..` where the map has `-`, R155). -/
def opRowE : List OpEntry := [
  .two .cpxImm, .two .sbcIndx, .one .undocE2, .one .undocE3,
  .two .cpxZp, .two .sbcZp, .two .incZp, .one .undocE7,
  .one .inx, .two .sbcImm, .one .nop, .one .undocEB,
  .three .cpxAbs, .three .sbcAbs, .three .incAbs, .one .undocEF]
/-- Row Fx of the opcode map (R131; `undoc..` where the map has `-`, R155). -/
def opRowF : List OpEntry := [
  .two .beq, .two .sbcIndy, .one .undocF2, .one .undocF3,
  .one .undocF4, .two .sbcZpx, .two .incZpx, .one .undocF7,
  .one .sed, .three .sbcAbsy, .one .undocFA, .one .undocFB,
  .one .undocFC, .three .sbcAbsx, .three .incAbsx, .one .undocFF]

/-- The opcode map (R131): sixteen rows, one for each high nibble. -/
def opcodeMap : List (List OpEntry) :=
  [opRow0, opRow1, opRow2, opRow3, opRow4, opRow5, opRow6, opRow7, opRow8, opRow9, opRowA, opRowB, opRowC, opRowD, opRowE, opRowF]

/-- Decoding an opcode byte: a lookup in the 256 entries (R130). The two defaults are never used: the map is 16 by 16. -/
def decodeOpcode (op : Byte) : OpEntry :=
  (opcodeMap.getD (op.toNat / 16) []).getD (op.toNat % 16) (.one .nop)

/-- Decoding a display-list instruction byte (R301, R303). -/
def decodeDlOpcode (ir : Byte) : OpEntry :=
  let mode := ir.extractLsb' 0 4
  let dli := ir.getLsbD 7
  let vs := ir.getLsbD 5
  let hs := ir.getLsbD 4
  if mode = 0 then .one (.dlBlank dli (ir.extractLsb' 4 3))
  else if mode = 1 then (if ir.getLsbD 6 then .three (.dlJvb dli vs hs) else .three (.dlJmp dli vs hs))
  else if ir.getLsbD 6 then .three (.dlModeLms dli vs hs mode) else .one (.dlMode dli vs hs mode)

/-- Reads one instruction off the front of a byte list with the given opcode decoder; the rest of the list is handed back. -/
def decodeWith (dec : Byte → OpEntry) : List Byte → Except DecodeError (Instr × List Byte)
  | [] => .error .noOpcode
  | op :: rest =>
    match dec op, rest with
    | .one i, rest => .ok (i, rest)
    | .two f, b :: rest => .ok (f b, rest)
    | .three f, lo :: hi :: rest => .ok (f (wordOfBytes lo hi), rest)
    | _, _ => .error (.missingOperand op)

/-- The CPU's decoder (R130). -/
def decode (bytes : List Byte) : Except DecodeError (Instr × List Byte) := decodeWith decodeOpcode bytes

/-- The video coprocessor's decoder (R303). -/
def decodeDl (bytes : List Byte) : Except DecodeError (Instr × List Byte) := decodeWith decodeDlOpcode bytes

/-! ## Encoder -/

/-- A display-list instruction byte from its fields (R301): DLI, bit 6, VS, HS, mode nibble. -/
def dlByte (dli b6 vs hs : Bool) (mode : BitVec 4) : Byte :=
  BitVec.ofBool dli ++ (BitVec.ofBool b6 ++ (BitVec.ofBool vs ++ (BitVec.ofBool hs ++ mode)))

/-- An opcode byte with a 16-bit operand, low byte first (R121, R90). -/
def encode3 (op : Byte) (w : Word) : List Byte := [op, loByte w, hiByte w]

/-- The bytes of an instruction, in the order of increasing addresses (R121, R131, R302, R303). -/
def encode : Instr → List Byte
  | .brk => [0x00]
  | .oraIndx z => [0x01, z]
  | .undoc02 => [0x02]
  | .undoc03 => [0x03]
  | .undoc04 => [0x04]
  | .oraZp z => [0x05, z]
  | .aslZp z => [0x06, z]
  | .undoc07 => [0x07]
  | .php => [0x08]
  | .oraImm m => [0x09, m]
  | .aslAcc => [0x0A]
  | .undoc0B => [0x0B]
  | .undoc0C => [0x0C]
  | .oraAbs w => encode3 0x0D w
  | .aslAbs w => encode3 0x0E w
  | .undoc0F => [0x0F]
  | .bpl d => [0x10, d]
  | .oraIndy z => [0x11, z]
  | .undoc12 => [0x12]
  | .undoc13 => [0x13]
  | .undoc14 => [0x14]
  | .oraZpx z => [0x15, z]
  | .aslZpx z => [0x16, z]
  | .undoc17 => [0x17]
  | .clc => [0x18]
  | .oraAbsy w => encode3 0x19 w
  | .undoc1A => [0x1A]
  | .undoc1B => [0x1B]
  | .undoc1C => [0x1C]
  | .oraAbsx w => encode3 0x1D w
  | .aslAbsx w => encode3 0x1E w
  | .undoc1F => [0x1F]
  | .jsr w => encode3 0x20 w
  | .andIndx z => [0x21, z]
  | .undoc22 => [0x22]
  | .undoc23 => [0x23]
  | .bitZp z => [0x24, z]
  | .andZp z => [0x25, z]
  | .rolZp z => [0x26, z]
  | .undoc27 => [0x27]
  | .plp => [0x28]
  | .andImm m => [0x29, m]
  | .rolAcc => [0x2A]
  | .undoc2B => [0x2B]
  | .bitAbs w => encode3 0x2C w
  | .andAbs w => encode3 0x2D w
  | .rolAbs w => encode3 0x2E w
  | .undoc2F => [0x2F]
  | .bmi d => [0x30, d]
  | .andIndy z => [0x31, z]
  | .undoc32 => [0x32]
  | .undoc33 => [0x33]
  | .undoc34 => [0x34]
  | .andZpx z => [0x35, z]
  | .rolZpx z => [0x36, z]
  | .undoc37 => [0x37]
  | .sec => [0x38]
  | .andAbsy w => encode3 0x39 w
  | .undoc3A => [0x3A]
  | .undoc3B => [0x3B]
  | .undoc3C => [0x3C]
  | .andAbsx w => encode3 0x3D w
  | .rolAbsx w => encode3 0x3E w
  | .undoc3F => [0x3F]
  | .rti => [0x40]
  | .eorIndx z => [0x41, z]
  | .undoc42 => [0x42]
  | .undoc43 => [0x43]
  | .undoc44 => [0x44]
  | .eorZp z => [0x45, z]
  | .lsrZp z => [0x46, z]
  | .undoc47 => [0x47]
  | .pha => [0x48]
  | .eorImm m => [0x49, m]
  | .lsrAcc => [0x4A]
  | .undoc4B => [0x4B]
  | .jmpAbs w => encode3 0x4C w
  | .eorAbs w => encode3 0x4D w
  | .lsrAbs w => encode3 0x4E w
  | .undoc4F => [0x4F]
  | .bvc d => [0x50, d]
  | .eorIndy z => [0x51, z]
  | .undoc52 => [0x52]
  | .undoc53 => [0x53]
  | .undoc54 => [0x54]
  | .eorZpx z => [0x55, z]
  | .lsrZpx z => [0x56, z]
  | .undoc57 => [0x57]
  | .cli => [0x58]
  | .eorAbsy w => encode3 0x59 w
  | .undoc5A => [0x5A]
  | .undoc5B => [0x5B]
  | .undoc5C => [0x5C]
  | .eorAbsx w => encode3 0x5D w
  | .lsrAbsx w => encode3 0x5E w
  | .undoc5F => [0x5F]
  | .rts => [0x60]
  | .adcIndx z => [0x61, z]
  | .undoc62 => [0x62]
  | .undoc63 => [0x63]
  | .undoc64 => [0x64]
  | .adcZp z => [0x65, z]
  | .rorZp z => [0x66, z]
  | .undoc67 => [0x67]
  | .pla => [0x68]
  | .adcImm m => [0x69, m]
  | .rorAcc => [0x6A]
  | .undoc6B => [0x6B]
  | .jmpInd w => encode3 0x6C w
  | .adcAbs w => encode3 0x6D w
  | .rorAbs w => encode3 0x6E w
  | .undoc6F => [0x6F]
  | .bvs d => [0x70, d]
  | .adcIndy z => [0x71, z]
  | .undoc72 => [0x72]
  | .undoc73 => [0x73]
  | .undoc74 => [0x74]
  | .adcZpx z => [0x75, z]
  | .rorZpx z => [0x76, z]
  | .undoc77 => [0x77]
  | .sei => [0x78]
  | .adcAbsy w => encode3 0x79 w
  | .undoc7A => [0x7A]
  | .undoc7B => [0x7B]
  | .undoc7C => [0x7C]
  | .adcAbsx w => encode3 0x7D w
  | .rorAbsx w => encode3 0x7E w
  | .undoc7F => [0x7F]
  | .undoc80 => [0x80]
  | .staIndx z => [0x81, z]
  | .undoc82 => [0x82]
  | .undoc83 => [0x83]
  | .styZp z => [0x84, z]
  | .staZp z => [0x85, z]
  | .stxZp z => [0x86, z]
  | .undoc87 => [0x87]
  | .dey => [0x88]
  | .undoc89 => [0x89]
  | .txa => [0x8A]
  | .undoc8B => [0x8B]
  | .styAbs w => encode3 0x8C w
  | .staAbs w => encode3 0x8D w
  | .stxAbs w => encode3 0x8E w
  | .undoc8F => [0x8F]
  | .bcc d => [0x90, d]
  | .staIndy z => [0x91, z]
  | .undoc92 => [0x92]
  | .undoc93 => [0x93]
  | .styZpx z => [0x94, z]
  | .staZpx z => [0x95, z]
  | .stxZpy z => [0x96, z]
  | .undoc97 => [0x97]
  | .tya => [0x98]
  | .staAbsy w => encode3 0x99 w
  | .txs => [0x9A]
  | .undoc9B => [0x9B]
  | .undoc9C => [0x9C]
  | .staAbsx w => encode3 0x9D w
  | .undoc9E => [0x9E]
  | .undoc9F => [0x9F]
  | .ldyImm m => [0xA0, m]
  | .ldaIndx z => [0xA1, z]
  | .ldxImm m => [0xA2, m]
  | .undocA3 => [0xA3]
  | .ldyZp z => [0xA4, z]
  | .ldaZp z => [0xA5, z]
  | .ldxZp z => [0xA6, z]
  | .undocA7 => [0xA7]
  | .tay => [0xA8]
  | .ldaImm m => [0xA9, m]
  | .tax => [0xAA]
  | .undocAB => [0xAB]
  | .ldyAbs w => encode3 0xAC w
  | .ldaAbs w => encode3 0xAD w
  | .ldxAbs w => encode3 0xAE w
  | .undocAF => [0xAF]
  | .bcs d => [0xB0, d]
  | .ldaIndy z => [0xB1, z]
  | .undocB2 => [0xB2]
  | .undocB3 => [0xB3]
  | .ldyZpx z => [0xB4, z]
  | .ldaZpx z => [0xB5, z]
  | .ldxZpy z => [0xB6, z]
  | .undocB7 => [0xB7]
  | .clv => [0xB8]
  | .ldaAbsy w => encode3 0xB9 w
  | .tsx => [0xBA]
  | .undocBB => [0xBB]
  | .ldyAbsx w => encode3 0xBC w
  | .ldaAbsx w => encode3 0xBD w
  | .ldxAbsy w => encode3 0xBE w
  | .undocBF => [0xBF]
  | .cpyImm m => [0xC0, m]
  | .cmpIndx z => [0xC1, z]
  | .undocC2 => [0xC2]
  | .undocC3 => [0xC3]
  | .cpyZp z => [0xC4, z]
  | .cmpZp z => [0xC5, z]
  | .decZp z => [0xC6, z]
  | .undocC7 => [0xC7]
  | .iny => [0xC8]
  | .cmpImm m => [0xC9, m]
  | .dex => [0xCA]
  | .undocCB => [0xCB]
  | .cpyAbs w => encode3 0xCC w
  | .cmpAbs w => encode3 0xCD w
  | .decAbs w => encode3 0xCE w
  | .undocCF => [0xCF]
  | .bne d => [0xD0, d]
  | .cmpIndy z => [0xD1, z]
  | .undocD2 => [0xD2]
  | .undocD3 => [0xD3]
  | .undocD4 => [0xD4]
  | .cmpZpx z => [0xD5, z]
  | .decZpx z => [0xD6, z]
  | .undocD7 => [0xD7]
  | .cld => [0xD8]
  | .cmpAbsy w => encode3 0xD9 w
  | .undocDA => [0xDA]
  | .undocDB => [0xDB]
  | .undocDC => [0xDC]
  | .cmpAbsx w => encode3 0xDD w
  | .decAbsx w => encode3 0xDE w
  | .undocDF => [0xDF]
  | .cpxImm m => [0xE0, m]
  | .sbcIndx z => [0xE1, z]
  | .undocE2 => [0xE2]
  | .undocE3 => [0xE3]
  | .cpxZp z => [0xE4, z]
  | .sbcZp z => [0xE5, z]
  | .incZp z => [0xE6, z]
  | .undocE7 => [0xE7]
  | .inx => [0xE8]
  | .sbcImm m => [0xE9, m]
  | .nop => [0xEA]
  | .undocEB => [0xEB]
  | .cpxAbs w => encode3 0xEC w
  | .sbcAbs w => encode3 0xED w
  | .incAbs w => encode3 0xEE w
  | .undocEF => [0xEF]
  | .beq d => [0xF0, d]
  | .sbcIndy z => [0xF1, z]
  | .undocF2 => [0xF2]
  | .undocF3 => [0xF3]
  | .undocF4 => [0xF4]
  | .sbcZpx z => [0xF5, z]
  | .incZpx z => [0xF6, z]
  | .undocF7 => [0xF7]
  | .sed => [0xF8]
  | .sbcAbsy w => encode3 0xF9 w
  | .undocFA => [0xFA]
  | .undocFB => [0xFB]
  | .undocFC => [0xFC]
  | .sbcAbsx w => encode3 0xFD w
  | .incAbsx w => encode3 0xFE w
  | .undocFF => [0xFF]
  | .dlBlank dli count => [BitVec.ofBool dli ++ (count ++ (0#4))]
  | .dlJmp dli vs hs addr => encode3 (dlByte dli false vs hs 1) addr
  | .dlJvb dli vs hs addr => encode3 (dlByte dli true vs hs 1) addr
  | .dlMode dli vs hs m => [dlByte dli false vs hs m]
  | .dlModeLms dli vs hs m addr => encode3 (dlByte dli true vs hs m) addr

/-- The instruction is one of the video coprocessor's (R303). -/
def Instr.isDisplayList : Instr → Bool
  | .dlBlank _ _ => true
  | .dlJmp _ _ _ _ => true
  | .dlJvb _ _ _ _ => true
  | .dlMode _ _ _ _ => true
  | .dlModeLms _ _ _ _ _ => true
  | _ => false

/-- The decoder of the agent that executes the instruction. -/
def decodeAs (i : Instr) (bytes : List Byte) : Except DecodeError (Instr × List Byte) :=
  if i.isDisplayList then decodeDl bytes else decode bytes

/-! ## The opcode table's numbering -/

/-- The bytes at the front of an instruction word of the opcode table: bit 0 is the least significant bit of the first byte,
the second byte is bits 15 to 8, the third bits 23 to 16; bits above `nbits` are 0. -/
def tableBytes (nbits w : Nat) : List Byte :=
  let v := w % 2 ^ nbits
  [BitVec.ofNat 8 v, BitVec.ofNat 8 (v / 256), BitVec.ofNat 8 (v / 65536)]

/-- What the CPU's decoder reads from an instruction word (log entry 1: words are read as the CPU reads them). -/
def decodeTableWord (nbits w : Nat) : Option Instr :=
  match decode (tableBytes nbits w) with
  | .ok (i, _) => some i
  | .error _ => none

end Sys2Proof
end

