-- ==== Sys2Proof/Config.lean ====
section
/-! DEFINITION. The implementation parameters of `00_scope.md` R10 that have one value in this spec, each under its name, and the
open values of the spec as opaque constants (no value of theirs can be evaluated or proved). The widths of R10 (`XLEN`, `PCLEN`,
the noise registers) are types; `DEC_ARITH` is `Machine.decArith` and `MODE_TABLE` is `Machine.modeTable`; the arguments of the
model are data of `Machine.State.params` (log entry 6). -/

namespace Sys2Proof.Config

/-- `STACK_PAGE`: the stack is memory page 1 (R10, R22). -/
def stackPage : Byte := 0x01
/-- `VEC_NMI` (R341). -/
def vecNmi : Word := 0xFFFA
/-- `VEC_RESET` (R341). -/
def vecReset : Word := 0xFFFC
/-- `VEC_IRQ`, used by IRQ and BRK (R341). -/
def vecIrq : Word := 0xFFFE
/-- `PHP_PUSH_B`: bit 4 of the byte PHP pushes (R192). -/
def phpPushB : Bool := true
/-- `PLP_LOADS_B`: PLP and RTI write flag B from bit 4 (R194, R282). -/
def plpLoadsB : Bool := true
/-- `JMP_IND_PAGE_WRAP` (R261). -/
def jmpIndPageWrap : Bool := true
/-- `SELFTEST_NEEDS_OS` (R75). -/
def selftestNeedsOs : Bool := true
/-- `SELFTEST_LO..HI`: the self-test window (R10, R72). -/
abbrev selftestLo : Nat := 0x5000
abbrev selftestHi : Nat := 0x57FF
/-- Where the self-test code stands in the OS image (R72). -/
abbrev selftestOsOffset : Nat := 0x1000
/-- `BASIC_LO..HI` (R10, R72). -/
abbrev basicLo : Nat := 0xA000
abbrev basicHi : Nat := 0xBFFF
/-- `IO_LO..HI`: the hardware register window (R10, R72). -/
abbrev ioLo : Nat := 0xD000
abbrev ioHi : Nat := 0xD7FF
/-- `OS1_LO..HI` (R10, R72). -/
abbrev os1Lo : Nat := 0xC000
abbrev os1Hi : Nat := 0xCFFF
/-- `OS2_LO..HI` (R10, R72). -/
abbrev os2Lo : Nat := 0xD800
abbrev os2Hi : Nat := 0xFFFF
/-- The chip windows `GTIA_PAGE`, `POKEY_PAGE`, `PIA_PAGE`, `ANTIC_PAGE`, one page each (R10, R83). -/
abbrev gtiaPage : Byte := 0xD0
abbrev pokeyPage : Byte := 0xD2
abbrev piaPage : Byte := 0xD3
abbrev anticPage : Byte := 0xD4
/-- The chip offset widths in bits (R10, R83). -/
abbrev gtiaOffsetBits : Nat := 5
abbrev pokeyOffsetBits : Nat := 4
abbrev piaOffsetBits : Nat := 2
abbrev anticOffsetBits : Nat := 4
/-- `PORTB_OS_BIT`: 1 enables the OS ROM (R10, R75). -/
abbrev portbOsBit : Nat := 0
/-- `PORTB_BASIC_BIT`: 0 enables the BASIC ROM (R10, R75). -/
abbrev portbBasicBit : Nat := 1
/-- `PORTB_SELFTEST_BIT`: 0 enables the self-test window (R10, R75). -/
abbrev portbSelftestBit : Nat := 7
/-- `IO_SENTINEL` (R84). -/
def ioSentinel : Byte := 0xFF
/-- `SCANLINES_PER_FRAME` (R10, D35). -/
def scanlinesPerFrame : Nat := 312
/-- `CYCLES_PER_SCANLINE` (R10, R511). -/
def cyclesPerScanline : Nat := 114
/-- `DL_DMA_COST`, cycles charged per display-list byte (R10, R300). -/
def dlDmaCost : Nat := 1
/-- `VISIBLE_FIRST` (R10, R395). -/
def visibleFirst : Nat := 8
/-- `VISIBLE_LINES` (R10, R395). -/
def visibleLines : Nat := 240
/-- `FB_WIDTH` (R10, R395). -/
def fbWidth : Nat := 384
/-- `CPU_CLOCK`, used by the sound period formula only (R461). -/
def cpuClock : Nat := 1773447
/-- The feedback taps of the noise registers of 4, 5, 9 and 17 bits (R10, R462). -/
abbrev poly4Tap : Nat := 1
abbrev poly5Tap : Nat := 2
abbrev poly9Tap : Nat := 5
abbrev poly17Tap : Nat := 5
/-- The seeds of the noise registers (R10, R462). -/
def poly4Seed : BitVec 4 := 0xF
def poly5Seed : BitVec 5 := 0x1F
def poly9Seed : BitVec 9 := 0x1FF
def poly17Seed : BitVec 17 := 0x1FFFF
/-- `RAM_SIZE`, `OS_ROM_SIZE`, `BASIC_ROM_SIZE` (R10). -/
def ramSize : Nat := 65536
def osRomSize : Nat := 16384
def basicRomSize : Nat := 8192
/-- What a RAM byte that nothing has written reads as: the spec leaves it unspecified (R542). DESIGN CHOICE, unsafe: log entry 3. -/
def ramFill : Byte := 0x00
/-- What an unlisted byte of a ROM image reads as: the spec gives no image. DESIGN CHOICE, unsafe: log entry 4. -/
def romFill : Byte := 0xFF

/-- `PALETTE`, the pixel value of a colour value: an argument of the model (R425, U12). Left open; safe: log entry 10. -/
opaque palette : Byte → Pixel

/-- `COLLISION_DRAW`: the bits of the `n`-th render pass for collision register `r` (0..3 MPF, 4..7 PPF, 8..11 MPL,
12..15 PPL): a draw (R398, U10). Left open; safe: log entry 9. -/
opaque collisionDraw (n r : Nat) : Byte

/-- The CPU register file (R20 to R24): accumulator, index registers, stack pointer, program counter and the seven
independent status flags. -/
structure Cpu where
  /-- accumulator -/
  a : Byte
  /-- index register X -/
  x : Byte
  /-- index register Y -/
  y : Byte
  /-- stack pointer; addresses the byte `0x0100 + SP` (R22) -/
  sp : Byte
  /-- program counter (R23) -/
  pc : Word
  /-- carry -/
  c : Bool
  /-- zero -/
  z : Bool
  /-- interrupt-disable -/
  i : Bool
  /-- decimal -/
  d : Bool
  /-- break, real state in this hardware (R26) -/
  b : Bool
  /-- overflow -/
  v : Bool
  /-- negative -/
  n : Bool
  deriving DecidableEq, Repr, Inhabited

/-- What an undocumented opcode does, as R290 lets an integrator supply it: the new registers and flags, how far the program
counter moves beyond the opcode byte, the byte writes in order, and the cycles beyond the first. -/
structure UndocEffect where
  a : Byte
  x : Byte
  y : Byte
  sp : Byte
  c : Bool
  z : Bool
  i : Bool
  d : Bool
  b : Bool
  v : Bool
  n : Bool
  /-- further advance of `PC` after the opcode byte is consumed ("`PC` advances by at least 1") -/
  pcExtra : Nat
  /-- the memory writes, in order, each through the router -/
  writes : List (Word × Byte)
  /-- cycles beyond the first ("its cycle cost is at least 1") -/
  cyclesExtra : Nat
  deriving DecidableEq, Repr, Inhabited

/-- `UNDOC_EXEC` (R10, R290, U1): a total function from the opcode byte, the CPU state after the opcode fetch and the memory
as the CPU reads it, to an effect. Left open; safe: log entry 2. -/
opaque undocExec : Byte → Cpu → (Word → Byte) → UndocEffect

end Sys2Proof.Config
end

