-- ==== Sys2Proof/Machine/State.lean ====
section
/-! DEFINITION. The state of the machine: every piece of state of `10_state.md`, block by block, as plain data, and the state
after reset (`70_reset_and_hazards.md` R540 to R549). -/

namespace Sys2Proof.Machine

/-- The hardware has no fault: "No behaviour of this hardware is `fault` or `stuck`" (`93_implementation_defined.md`), R331, R519.
So no constructor, and nobody raises one. -/
inductive Fault where
  deriving DecidableEq, Repr

/-- Why a step has no meaning. -/
inductive Refusal where
  /-- Raised by `exec` for an instruction whose meaning is not written yet; safe. No arm raises it any more. -/
  | notModelled (mnemonic : String)
  /-- Raised by `exec` on the ill-formed terms `dlMode` and `dlModeLms` whose mode number is 0 or 1, which no byte decodes to
  (R303, R312 "Entries 0 and 1 are not mode lines"); safe. -/
  | notAModeLine
  deriving DecidableEq, Repr

/-- Four like registers, indices 0 to 3. -/
structure Quad (α : Type) where
  q0 : α
  q1 : α
  q2 : α
  q3 : α
  deriving DecidableEq, Repr

/-- Sparse memory: address and byte pairs, addresses strictly rising, no entry equal to what an unlisted address reads as
(`Memory.wf`). -/
abbrev Memory := List Host.Cell

/-- The pixel buffer `FB` by rows: row number and its pixels, row numbers strictly rising; a row not listed has not been drawn. -/
abbrev FrameBuffer := List (Nat × List Pixel)

/-- The CPU register file (R20). -/
abbrev Cpu := Config.Cpu

/-- The video coprocessor (R40 to R47). -/
structure Antic where
  /-- DMA control (R374) -/
  dmactl : Byte
  /-- character control (R375) -/
  chactl : Byte
  /-- horizontal scroll offset (R377) -/
  hscrol : Byte
  /-- vertical scroll offset, without effect (R311, R377) -/
  vscrol : Byte
  /-- player/missile base, without effect (R378) -/
  pmbase : Byte
  /-- character-set base, high byte (R379) -/
  chbase : Byte
  /-- NMI enable (R384) -/
  nmien : Byte
  /-- NMI status (R385) -/
  nmist : Byte
  /-- display-list base address (R376) -/
  dlist : Word
  /-- display-list fetch pointer (R41, R300) -/
  dlPc : Word
  /-- scanlines left in the current mode line (R41) -/
  rowsLeft : Nat
  /-- row within the mode line (R41; log entry 18) -/
  rowInMode : Nat
  /-- memory scan pointer (R41, R397) -/
  memscan : Word
  /-- mode of the current mode line, 0 for blank lines (R42) -/
  curMode : BitVec 4
  /-- DLI modifier as decoded (R42) -/
  curDli : Bool
  /-- HS modifier as decoded (R42) -/
  curHscroll : Bool
  /-- VS modifier as decoded (R42) -/
  curVscroll : Bool
  /-- scanlines of the mode line (R42) -/
  modeHeight : Nat
  /-- character mode or bitmap mode (R42) -/
  isChar : Bool
  /-- standard bytes per line (R42) -/
  bytesPerLine : Nat
  /-- characters or bytes rendered (R42, R313) -/
  renderUnits : Nat
  /-- horizontal pixel offset of the content (R42, R313) -/
  xOffset : Nat
  /-- memory-scan advance (R42, R313) -/
  stride : Nat
  /-- display-list processing is enabled (R43) -/
  dlActive : Bool
  /-- scanline counter (R44) -/
  scanline : Nat
  /-- a display-list interrupt request waits for its take (R45) -/
  pendingDli : Bool
  /-- a vertical-blank interrupt request waits for its take (R45) -/
  pendingVbi : Bool
  /-- the CPU is halted to the end of the scanline (R45, R380) -/
  wsyncHalt : Bool
  /-- cycles of the display-list fetches since the last budget (R46) -/
  dmaCycles : Nat
  /-- the pixel buffer (R47) -/
  fb : FrameBuffer
  deriving DecidableEq, Repr

/-- The colour/graphics coprocessor (R48). -/
structure Gtia where
  /-- colours of players and missiles, stored only (R425) -/
  colpm : Quad Byte
  /-- colours of the playfields (R424) -/
  colpf : Quad Byte
  /-- background colour (R424) -/
  colbk : Byte
  /-- player positions, stored only (R426) -/
  hposp : Quad Byte
  /-- missile positions, stored only (R426) -/
  hposm : Quad Byte
  /-- player sizes, stored only (R426) -/
  sizep : Quad Byte
  /-- missile sizes, stored only (R426) -/
  sizem : Byte
  /-- missile to playfield collisions (R427) -/
  mpf : Quad Byte
  /-- player to playfield collisions (R427) -/
  ppf : Quad Byte
  /-- missile to player collisions (R427) -/
  mpl : Quad Byte
  /-- player to player collisions (R427) -/
  ppl : Quad Byte
  /-- trigger latches, `false` = pressed (R431) -/
  trig : Quad Bool
  /-- console latch: bit 0 START, bit 1 SELECT, bit 2 OPTION, 0 = pressed (R432) -/
  consolIn : BitVec 3
  deriving DecidableEq, Repr

/-- The sound coprocessor (R50 to R53). -/
structure Pokey where
  /-- frequency divisors (R454) -/
  audf : Quad Byte
  /-- control bytes (R455) -/
  audc : Quad Byte
  /-- running divider counters, signed (R465) -/
  divcnt : Quad Int
  /-- periods in samples (R461) -/
  period : Quad Nat
  /-- square-wave bits (R465) -/
  sq : Quad Bool
  /-- last output samples (R465) -/
  last : Quad Int
  /-- global control register (R456) -/
  audctl : Byte
  /-- interrupt enable mask (R473) -/
  irqen : Byte
  /-- interrupt status, a 0 bit means pending (R474) -/
  irqst : Byte
  /-- stored, without effect (R472) -/
  skctl : Byte
  /-- last key code (R470) -/
  kbcode : Byte
  /-- a key is reported pressed (R471, R476) -/
  keyDown : Bool
  /-- 4-bit noise register (R462) -/
  poly4 : BitVec 4
  /-- 5-bit noise register (R462) -/
  poly5 : BitVec 5
  /-- 9-bit noise register (R462) -/
  poly9 : BitVec 9
  /-- 17-bit noise register (R462) -/
  poly17 : BitVec 17
  /-- position in the cadence (R466) -/
  polyTick : Nat
  /-- the sample buffer: signed 16-bit values (R53) -/
  samples : List (BitVec 16)
  /-- samples produced so far in this frame (R53) -/
  sampleIndex : Nat
  deriving DecidableEq, Repr

/-- The peripheral-interface adapter (R54). -/
structure Pia where
  /-- port A output latch (R501) -/
  portaOut : Byte
  /-- port A direction register (R494) -/
  ddra : Byte
  /-- port A control register (R496) -/
  pactl : Byte
  /-- port B output latch: the bank select (R498, R500) -/
  portbOut : Byte
  /-- port B direction register (R495) -/
  ddrb : Byte
  /-- port B control register (R497) -/
  pbctl : Byte
  /-- port A external input: the joystick (R503) -/
  portaIn : Byte
  deriving DecidableEq, Repr

/-- The orchestrator (R45, R60 to R62). -/
structure Orch where
  /-- NMI in service latch (R351, R353) -/
  nmiInService : Bool
  /-- "an explicit halt flag that this design does not actively set" (R61; log entry 21) -/
  haltFlag : Bool
  /-- cycles consumed in the current scanline (R62) -/
  lineCycles : Nat
  /-- cycles the current scanline may consume (R62, R511) -/
  budget : Int
  deriving DecidableEq, Repr

/-- A number that the spec constrains to be at least `k` (R10, R11). -/
abbrev AtLeast (k : Nat) := { n : Nat // k ≤ n }

/-- The arguments of the model that a claim must be able to name (R10, R11, R31): no rule writes them. -/
structure Params where
  /-- the operating-system image by offset (R31) -/
  osRom : Memory
  /-- the BASIC image by offset (R31) -/
  basicRom : Memory
  /-- `NMI_LATCH_CLEAR_ON_RTI` (R282, R353) -/
  nmiLatchClearOnRti : Bool
  /-- `SAMPLE_RATE` (R11, R461) -/
  sampleRate : Nat
  /-- `SAMPLES_PER_FRAME`, at least 1 (R11, R466) -/
  samplesPerFrame : AtLeast 1
  /-- `POLY_CADENCE`, at least 2 (R463, R466) -/
  polyCadence : AtLeast 2
  /-- `COLOR_RESET[0..3]`, the reset values of `COLPM` (R424) -/
  colpmReset : Quad Byte
  /-- `COLOR_RESET[4..7]`, the reset values of `COLPF` (R424) -/
  colpfReset : Quad Byte
  /-- `COLOR_RESET[8]`, the reset value of `COLBK` (R424) -/
  colbkReset : Byte
  deriving DecidableEq, Repr

/-- The console switches of `CONSOL_IN` (R432). -/
inductive ConsoleKey where
  | start
  | select
  | option
  deriving DecidableEq, Repr

/-- One call of the external scan task (R523). -/
inductive ScanEvent where
  /-- `setJoystick(up, down, left, right)` (R503) -/
  | joystick (up down left right : Bool)
  /-- `setTrigger(i, pressed)` (R431) -/
  | trigger (i : BitVec 2) (pressed : Bool)
  /-- `setConsoleKey(k, pressed)` (R432) -/
  | consoleKey (k : ConsoleKey) (pressed : Bool)
  /-- `setKey(code, pressed)` (R476) -/
  | key (code : Byte) (pressed : Bool)
  deriving DecidableEq, Repr

/-- What the display sink was handed: the pixel buffer and the border colour (R521). -/
structure Picture where
  fb : FrameBuffer
  border : Pixel
  deriving DecidableEq, Repr

/-- What the audio sink was handed: the sample buffer and its length in bytes (R522). -/
structure Sound where
  samples : List (BitVec 16)
  byteLength : Nat
  deriving DecidableEq, Repr

/-- The last hand-overs to the sinks (the model's own field: log entry 16). -/
structure Sinks where
  display : Option Picture
  audio : Option Sound
  deriving DecidableEq, Repr

/-- The state of the machine. -/
structure State where
  /-- the CPU register file (R20) -/
  cpu : Cpu
  /-- the 64 KB backing store (R30), keyed by address -/
  ram : Memory
  /-- the video coprocessor (R40 to R47) -/
  antic : Antic
  /-- the colour/graphics coprocessor (R48) -/
  gtia : Gtia
  /-- the sound coprocessor (R50 to R53) -/
  pokey : Pokey
  /-- the peripheral-interface adapter (R54) -/
  pia : Pia
  /-- the orchestrator (R60 to R62) -/
  orch : Orch
  /-- the arguments of the model (R10, R31) -/
  params : Params
  /-- the scan task's coming events, one list for each place where an event may fall (the model's own field: log entry 8) -/
  scan : List (List ScanEvent)
  /-- render passes so far, which select the next collision draw (the model's own field: log entry 9) -/
  collisionPass : Nat
  /-- the hand-overs to the sinks (the model's own field: log entry 16) -/
  sinks : Sinks
  deriving DecidableEq, Repr

/-- The same value in all four registers. -/
def Quad.all {α : Type} (v : α) : Quad α := ⟨v, v, v, v⟩

/-- The arguments the model takes at reset: images blank (log entry 4), the latch parameter and the colours as R10 gives
them, the audio numbers of log entry 6. -/
def Params.default : Params where
  osRom := []
  basicRom := []
  nmiLatchClearOnRti := false
  sampleRate := 44100
  samplesPerFrame := ⟨882, by decide⟩
  polyCadence := ⟨2, by decide⟩
  colpmReset := .all 0
  colpfReset := .all 0
  colbkReset := 0

/-- The video coprocessor after reset (R543; the pixel buffer: log entry 7). -/
def Antic.reset : Antic where
  dmactl := 0
  chactl := 0
  hscrol := 0
  vscrol := 0
  pmbase := 0
  chbase := 0
  nmien := 0
  nmist := 0x1F
  dlist := 0
  dlPc := 0
  rowsLeft := 0
  rowInMode := 0
  memscan := 0
  curMode := 0
  curDli := false
  curHscroll := false
  curVscroll := false
  modeHeight := 0
  isChar := false
  bytesPerLine := 0
  renderUnits := 0
  xOffset := 0
  stride := 0
  dlActive := true
  scanline := 0
  pendingDli := false
  pendingVbi := false
  wsyncHalt := false
  dmaCycles := 0
  fb := []

/-- The colour/graphics coprocessor after reset (R544), with the colours of `COLOR_RESET`. -/
def Gtia.reset (p : Params) : Gtia where
  colpm := p.colpmReset
  colpf := p.colpfReset
  colbk := p.colbkReset
  hposp := .all 0
  hposm := .all 0
  sizep := .all 0
  sizem := 0
  mpf := .all 0
  ppf := .all 0
  mpl := .all 0
  ppl := .all 0
  trig := .all true
  consolIn := 0b111

/-- The sound coprocessor after reset (R545; the sample buffer: log entry 7). -/
def Pokey.reset : Pokey where
  audf := .all 0
  audc := .all 0
  divcnt := .all 0
  period := .all 1
  sq := .all false
  last := .all 0
  audctl := 0
  irqen := 0
  irqst := 0xFF
  skctl := 0
  kbcode := 0xFF
  keyDown := false
  poly4 := Config.poly4Seed
  poly5 := Config.poly5Seed
  poly9 := Config.poly9Seed
  poly17 := Config.poly17Seed
  polyTick := 0
  samples := []
  sampleIndex := 0

/-- The adapter after reset (R546). -/
def Pia.reset : Pia where
  portaOut := 0x00
  ddra := 0x00
  pactl := 0x00
  portbOut := 0xFF
  ddrb := 0x00
  pbctl := 0x00
  portaIn := 0xFF

/-- The orchestrator after reset (R547). -/
def Orch.reset : Orch where
  nmiInService := false
  haltFlag := false
  lineCycles := 0
  budget := Config.cyclesPerScanline

/-- The CPU after reset (R541): `I` is 1 and `PC` is the reset vector, which a blank image gives as 0xFFFF (log entry 4);
the registers and flags the spec leaves unspecified hold the values of log entry 5. -/
def resetCpu : Cpu where
  a := 0
  x := 0
  y := 0
  sp := 0xFF
  pc := 0xFFFF
  c := false
  z := false
  i := true
  d := false
  b := true
  v := false
  n := false

/-- The machine right after reset (R540 to R549). -/
def State.reset : State where
  cpu := resetCpu
  ram := []
  antic := .reset
  gtia := .reset .default
  pokey := .reset
  pia := .reset
  orch := .reset
  params := .default
  scan := []
  collisionPass := 0
  sinks := ⟨none, none⟩

end Sys2Proof.Machine
end

