-- ==== Sys2Proof/Machine/Update.lean ====
section
/-! DEFINITION. Named updates of the blocks of `State`, and the accessors of four like registers. -/

namespace Sys2Proof.Machine

/-- Replaces the CPU register file. -/
def State.setCpu (s : State) (c : Cpu) : State := { s with cpu := c }
/-- Replaces the backing store. -/
def State.setRam (s : State) (m : Memory) : State := { s with ram := m }
/-- Replaces the video coprocessor. -/
def State.setAntic (s : State) (a : Antic) : State := { s with antic := a }
/-- Replaces the colour/graphics coprocessor. -/
def State.setGtia (s : State) (g : Gtia) : State := { s with gtia := g }
/-- Replaces the sound coprocessor. -/
def State.setPokey (s : State) (p : Pokey) : State := { s with pokey := p }
/-- Replaces the peripheral-interface adapter. -/
def State.setPia (s : State) (p : Pia) : State := { s with pia := p }
/-- Replaces the orchestrator. -/
def State.setOrch (s : State) (o : Orch) : State := { s with orch := o }
/-- Replaces the schedule of the scan task. -/
def State.setScan (s : State) (l : List (List ScanEvent)) : State := { s with scan := l }
/-- Replaces the count of render passes. -/
def State.setCollisionPass (s : State) (n : Nat) : State := { s with collisionPass := n }
/-- Replaces the record of the hand-overs to the sinks. -/
def State.setSinks (s : State) (k : Sinks) : State := { s with sinks := k }

/-- Register `i` of four; indices above 3 do not occur. -/
def Quad.get {α : Type} (q : Quad α) (i : Nat) : α :=
  match i with
  | 0 => q.q0
  | 1 => q.q1
  | 2 => q.q2
  | _ => q.q3

/-- Writes register `i` of four; indices above 3 do not occur. -/
def Quad.set {α : Type} (q : Quad α) (i : Nat) (v : α) : Quad α :=
  match i with
  | 0 => { q with q0 := v }
  | 1 => { q with q1 := v }
  | 2 => { q with q2 := v }
  | _ => { q with q3 := v }

/-- Four registers from a function of the index. -/
def Quad.ofFn {α : Type} (f : Nat → α) : Quad α := ⟨f 0, f 1, f 2, f 3⟩

end Sys2Proof.Machine
end

