-- ==== Sys2Proof/Machine/Antic.lean ====
section
/-! DEFINITION. The video coprocessor's registers, interrupt requests and scanline counter (`61_video_coprocessor.md` R370 to
R393). -/

namespace Sys2Proof.Machine

/-- `AnticRead(o)` (R372). No read has a side effect. -/
def anticRead (o : Nat) (a : Antic) : Byte :=
  match o with
  | 0xB => BitVec.ofNat 8 (a.scanline / 2)
  | 0xF => a.nmist
  | _ => Config.ioSentinel

/-- `AnticWrite(o, v)` (R373). -/
def anticWrite (o : Nat) (v : Byte) (a : Antic) : Antic :=
  match o with
  | 0x0 => { a with dmactl := v }
  | 0x1 => { a with chactl := v }
  | 0x2 => { a with dlist := wordOfBytes v (hiByte a.dlist) }
  | 0x3 => { a with dlist := wordOfBytes (loByte a.dlist) v }
  | 0x4 => { a with hscrol := v }
  | 0x5 => { a with vscrol := v }
  | 0x7 => { a with pmbase := v }
  | 0x9 => { a with chbase := v }
  | 0xA => { a with wsyncHalt := true }
  | 0xE => { a with nmien := v }
  | 0xF => { a with nmist := 0x1F }
  | _ => a

/-- A raise of the display-list interrupt, if `NMIEN` bit 7 enables it (R310, R333). -/
def raiseDli (a : Antic) : Antic :=
  if a.nmien.getLsbD 7 then { a with pendingDli := true, nmist := a.nmist ||| 0x80 } else a

/-- A raise of the vertical-blank interrupt, if `NMIEN` bit 6 enables it (R307, R333, R390). -/
def raiseVbi (a : Antic) : Antic :=
  if a.nmien.getLsbD 6 then { a with pendingVbi := true, nmist := a.nmist ||| 0x40 } else a

/-- The takes `checkDLI()` and `checkVBI()`: both flags are cleared (R392). -/
def takeRequests (a : Antic) : Antic := { a with pendingDli := false, pendingVbi := false }

/-- `nextScanline()` (R390). -/
def nextScanline (a : Antic) : Antic :=
  let a := { a with wsyncHalt := false, scanline := a.scanline + 1 }
  if a.scanline = Config.scanlinesPerFrame then
    raiseVbi { a with
      scanline := 0, dlPc := a.dlist, dlActive := true, rowsLeft := 0, rowInMode := 0, memscan := 0 }
  else a

/-- The playfield width field `DMACTL[1:0]` (R374). -/
def Antic.width (a : Antic) : Nat := (a.dmactl.extractLsb' 0 2).toNat

/-- The state "idle (DMA disabled)" (R374, R393). -/
def Antic.idle (a : Antic) : Bool := !a.dmactl.getLsbD 5 || a.width == 0

end Sys2Proof.Machine
end

