-- ==== Sys2Proof/Machine/Flags.lean ====
section
/-! DEFINITION. The flag computations: `SetNZ`, `PackP`, `UnpackP` (`00_scope.md` R14), binary and decimal addition and
subtraction, compare (`42_arithmetic.md` R200 to R211), shifts and rotates (`43_logic_shift.md` R235 to R238). -/

namespace Sys2Proof.Machine

/-- `SetNZ(v)` (R14). -/
def setNZ (v : Byte) (c : Cpu) : Cpu := { c with z := v == 0, n := v.getLsbD 7 }

/-- `A <- v; SetNZ(A)`. -/
def loadA (v : Byte) (c : Cpu) : Cpu := setNZ v { c with a := v }

/-- `X <- v; SetNZ(X)`. -/
def loadX (v : Byte) (c : Cpu) : Cpu := setNZ v { c with x := v }

/-- `Y <- v; SetNZ(Y)`. -/
def loadY (v : Byte) (c : Cpu) : Cpu := setNZ v { c with y := v }

/-- `PackP(b) = {N, V, 1, b, D, I, Z, C}` (R14, R24). -/
def packP (b : Bool) (c : Cpu) : Byte :=
  BitVec.ofBool c.n ++ (BitVec.ofBool c.v ++ (1#1 ++ (BitVec.ofBool b ++
    (BitVec.ofBool c.d ++ (BitVec.ofBool c.i ++ (BitVec.ofBool c.z ++ BitVec.ofBool c.c))))))

/-- `UnpackP(v)` (R14): bit 5 is ignored, bit 4 is loaded when `PLP_LOADS_B`. -/
def unpackP (v : Byte) (c : Cpu) : Cpu :=
  { c with
    n := v.getLsbD 7
    v := v.getLsbD 6
    b := if Config.plpLoadsB then v.getLsbD 4 else c.b
    d := v.getLsbD 3
    i := v.getLsbD 2
    z := v.getLsbD 1
    c := v.getLsbD 0 }

/-- A result byte with the four flags of an addition or subtraction. -/
structure Alu where
  r : Byte
  n : Bool
  v : Bool
  z : Bool
  c : Bool
  deriving DecidableEq, Repr

/-- `AddBin(a, m, c)` (R203). -/
def addBin (a m : Byte) (c : Bool) : Alu :=
  let t : Nat := a.toNat + m.toNat + c.toNat
  let r := BitVec.ofNat 8 t
  { r := r
    n := r.getLsbD 7
    v := ((~~~(a ^^^ m)) &&& (a ^^^ r)).getLsbD 7
    z := r == 0
    c := decide (255 < t) }

/-- `SubBin(a, m, c)` (R206). -/
def subBin (a m : Byte) (c : Bool) : Alu :=
  let t : Int := (a.toNat : Int) - m.toNat - (1 - c.toNat)
  let r := BitVec.ofInt 8 t
  { r := r
    n := r.getLsbD 7
    v := ((a ^^^ m) &&& (a ^^^ r)).getLsbD 7
    z := r == 0
    c := decide (0 ≤ t) }

/-- `AddDec(a, m, c)`, decimal addition (R204): Z of the binary sum, N and V of the half-adjusted sum. -/
def addDec (a m : Byte) (c : Bool) : Alu :=
  let units : Nat := a.toNat % 16 + m.toNat % 16 + c.toNat
  let al : Nat := if 9 < units then (units + 6) % 16 + 16 else units
  let t : Nat := (a &&& 0xF0).toNat + (m &&& 0xF0).toNat + al
  let half := BitVec.ofNat 8 t
  let t2 : Nat := if 0x9F < t then t + 0x60 else t
  { r := BitVec.ofNat 8 t2
    n := half.getLsbD 7
    v := ((~~~(a ^^^ m)) &&& (a ^^^ half)).getLsbD 7
    z := BitVec.ofNat 8 (a.toNat + m.toNat + c.toNat) == 0
    c := decide (0xFF < t2) }

/-- `SubDec(a, m, c)`, decimal subtraction (R207): all four flags are those of the binary subtraction. -/
def subDec (a m : Byte) (c : Bool) : Alu :=
  let units : Int := (a.toNat % 16 : Int) - (m.toNat % 16 : Int) - (1 - c.toNat)
  let al : Int := if units < 0 then (units - 6) % 16 - 16 else units
  let t : Int := ((a &&& 0xF0).toNat : Int) - (m &&& 0xF0).toNat + al
  let t2 : Int := if t < 0 then t - 0x60 else t
  { subBin a m c with r := BitVec.ofInt 8 t2 }

/-- The decimal-mode functions of ADC and SBC, one implementation parameter (R10). -/
structure DecArith where
  add : Byte → Byte → Bool → Alu
  sub : Byte → Byte → Bool → Alu

/-- `DEC_ARITH` (R10): the functions of R204 and R207 (log entry 11). -/
def decArith : DecArith := ⟨addDec, subDec⟩

/-- Stores an addition or subtraction result in `A` and its four flags (R202, R205). -/
def putAlu (u : Alu) (c : Cpu) : Cpu := { c with a := u.r, n := u.n, v := u.v, z := u.z, c := u.c }

/-- ADC: decimal when `D` is set (R202). -/
def adc (m : Byte) (c : Cpu) : Cpu := putAlu (if c.d then decArith.add c.a m c.c else addBin c.a m c.c) c

/-- SBC: decimal when `D` is set (R205). -/
def sbc (m : Byte) (c : Cpu) : Cpu := putAlu (if c.d then decArith.sub c.a m c.c else subBin c.a m c.c) c

/-- A compare of register value `r` with `m`: N and Z of the difference, C when no borrow; `D` and the old `C` are ignored
(R209 to R211). -/
def cmpFlags (r m : Byte) (c : Cpu) : Cpu := { setNZ (r - m) c with c := decide (m.toNat ≤ r.toNat) }

/-- BIT: Z of the AND with `A`, N and V from bits 7 and 6 of the operand (R234). -/
def bitTest (m : Byte) (c : Cpu) : Cpu := { c with z := (c.a &&& m) == 0, n := m.getLsbD 7, v := m.getLsbD 6 }

/-- ASL (R235): bit 7 to C, bit 0 becomes 0. -/
def shiftLeft (v : Byte) (c : Cpu) : Byte × Cpu :=
  let r := v <<< 1
  (r, { setNZ r c with c := v.getLsbD 7 })

/-- LSR (R236): bit 0 to C, bit 7 becomes 0. -/
def shiftRight (v : Byte) (c : Cpu) : Byte × Cpu :=
  let r := v >>> 1
  (r, { setNZ r c with c := v.getLsbD 0 })

/-- ROL (R237): old C into bit 0, bit 7 to C. -/
def rotateLeft (v : Byte) (c : Cpu) : Byte × Cpu :=
  let r := (v <<< 1) ||| (BitVec.ofBool c.c).setWidth 8
  (r, { setNZ r c with c := v.getLsbD 7 })

/-- ROR (R238): old C into bit 7, bit 0 to C. -/
def rotateRight (v : Byte) (c : Cpu) : Byte × Cpu :=
  let r := (v >>> 1) ||| ((BitVec.ofBool c.c).setWidth 8 <<< 7)
  (r, { setNZ r c with c := v.getLsbD 0 })

/-- INC (R212). -/
def increment (v : Byte) (c : Cpu) : Byte × Cpu := (v + 1, setNZ (v + 1) c)

/-- DEC (R213). -/
def decrement (v : Byte) (c : Cpu) : Byte × Cpu := (v - 1, setNZ (v - 1) c)

end Sys2Proof.Machine
end

