-- ==== Sys2Proof/Machine/Gtia.lean ====
section
/-! DEFINITION. The colour/graphics coprocessor's registers (`62_color_graphics.md`). -/

namespace Sys2Proof.Machine

/-- `GtiaRead(o)` (R422). No read has a side effect. -/
def gtiaRead (o : Nat) (g : Gtia) : Byte :=
  if o < 0x04 then g.mpf.get o &&& 0x0F
  else if o < 0x08 then g.ppf.get (o - 0x04) &&& 0x0F
  else if o < 0x0C then g.mpl.get (o - 0x08) &&& 0x0F
  else if o < 0x10 then g.ppl.get (o - 0x0C) &&& 0x0F
  else if o < 0x14 then (BitVec.ofBool (g.trig.get (o - 0x10))).setWidth 8
  else if o = 0x14 then 0x01
  else if o = 0x1F then g.consolIn.setWidth 8
  else Config.ioSentinel

/-- `HITCLR`: all sixteen collision registers become 0 (R430). -/
def hitclr (g : Gtia) : Gtia := { g with mpf := .all 0, ppf := .all 0, mpl := .all 0, ppl := .all 0 }

/-- `GtiaWrite(o, v)` (R423). -/
def gtiaWrite (o : Nat) (v : Byte) (g : Gtia) : Gtia :=
  if o < 0x04 then { g with hposp := g.hposp.set o v }
  else if o < 0x08 then { g with hposm := g.hposm.set (o - 0x04) v }
  else if o < 0x0C then { g with sizep := g.sizep.set (o - 0x08) v }
  else if o = 0x0C then { g with sizem := v }
  else if o < 0x12 then g
  else if o < 0x16 then { g with colpm := g.colpm.set (o - 0x12) v }
  else if o < 0x1A then { g with colpf := g.colpf.set (o - 0x16) v }
  else if o = 0x1A then { g with colbk := v }
  else if o = 0x1E then hitclr g
  else g

/-- ORs the draws of one render pass into a group of four collision registers (R398). -/
def orDraws (n first : Nat) (q : Quad Byte) : Quad Byte :=
  Quad.ofFn fun i => q.get i ||| (Config.collisionDraw n (first + i) &&& 0x0F)

/-- `CollisionPass()` for the `n`-th render pass (R398): the only rule that sets collision bits (R428). -/
def collisionBits (n : Nat) (g : Gtia) : Gtia :=
  { g with mpf := orDraws n 0 g.mpf, ppf := orDraws n 4 g.ppf, mpl := orDraws n 8 g.mpl, ppl := orDraws n 12 g.ppl }

/-- `setTrigger(i, pressed)`: active low (R431). -/
def setTrigger (i : BitVec 2) (pressed : Bool) (g : Gtia) : Gtia := { g with trig := g.trig.set i.toNat (!pressed) }

/-- The bit of a console switch (R432). -/
def ConsoleKey.bit : ConsoleKey → BitVec 3
  | .start => 0b001
  | .select => 0b010
  | .option => 0b100

/-- `setConsoleKey(k, pressed)`: clears the switch's bit on a press, sets it on a release, leaves the other two (R432). -/
def setConsoleKey (k : ConsoleKey) (pressed : Bool) (g : Gtia) : Gtia :=
  { g with consolIn := if pressed then g.consolIn &&& ~~~k.bit else g.consolIn ||| k.bit }

end Sys2Proof.Machine
end

