-- ==== Sys2Proof/Machine/Memory.lean ====
section
/-! DEFINITION. Sparse memories in one canonical form, and the pixel rows of the frame buffer. `fill` is what an unlisted
address reads as. -/

namespace Sys2Proof.Machine

/-- The byte at address `a`. -/
def Memory.read (fill : Byte) : Memory → Nat → Byte
  | [], _ => fill
  | (b, v) :: m, a => if a = b then v else Memory.read fill m a

/-- Writes the byte at address `a`; writing `fill` removes the entry, so equal memories are equal lists. -/
def Memory.write (fill : Byte) : Memory → Nat → Byte → Memory
  | [], a, v => if v = fill then [] else [(a, v)]
  | (b, w) :: m, a, v =>
    if a < b then (if v = fill then (b, w) :: m else (a, v) :: (b, w) :: m)
    else if a = b then (if v = fill then m else (a, v) :: m)
    else (b, w) :: Memory.write fill m a v

/-- The canonical form: addresses strictly rising and below `size`, no entry equal to `fill`. -/
def Memory.wf (fill : Byte) (size : Nat) : Memory → Bool
  | [] => true
  | (b, v) :: m => decide (b < size) && (v != fill) && m.all (fun c => decide (b < c.1)) && Memory.wf fill size m

/-- Puts one pixel row into the frame buffer, row numbers kept strictly rising. -/
def setRow : FrameBuffer → Nat → List Pixel → FrameBuffer
  | [], y, row => [(y, row)]
  | (z, old) :: f, y, row =>
    if y < z then (y, row) :: (z, old) :: f
    else if y = z then (y, row) :: f
    else (z, old) :: setRow f y row

/-- The pixel row `y` of the frame buffer, if it has been drawn. -/
def getRow : FrameBuffer → Nat → Option (List Pixel)
  | [], _ => none
  | (z, row) :: f, y => if y = z then some row else getRow f y

end Sys2Proof.Machine
end

