-- ==== Sys2Proof/Machine/Pia.lean ====
section
/-! DEFINITION. The peripheral-interface adapter (`64_peripheral_adapter.md`) and the banking state it derives (R75). -/

namespace Sys2Proof.Machine

/-- `os_rom_en` (R75). -/
def Pia.osRomEn (p : Pia) : Bool := p.portbOut.getLsbD Config.portbOsBit
/-- `basic_rom_en` (R75). -/
def Pia.basicRomEn (p : Pia) : Bool := !p.portbOut.getLsbD Config.portbBasicBit
/-- `selftest_en` (R75). -/
def Pia.selftestEn (p : Pia) : Bool :=
  !p.portbOut.getLsbD Config.portbSelftestBit && (!Config.selftestNeedsOs || p.osRomEn)

/-- `PiaRead(o)` (R492). No read has a side effect. -/
def piaRead (o : Nat) (p : Pia) : Byte :=
  match o with
  | 0 => if p.pactl.getLsbD 2 then (p.portaOut &&& p.ddra) ||| (p.portaIn &&& ~~~p.ddra) else p.ddra
  | 1 => if p.pbctl.getLsbD 2 then p.portbOut else p.ddrb
  | 2 => p.pactl
  | _ => p.pbctl

/-- `PiaWrite(o, v)` (R493). The banking functions read the new `PORTB_OUT` at the very next access (R76). -/
def piaWrite (o : Nat) (v : Byte) (p : Pia) : Pia :=
  match o with
  | 0 =>
    if p.pactl.getLsbD 2 then { p with portaOut := (p.portaOut &&& ~~~p.ddra) ||| (v &&& p.ddra) }
    else { p with ddra := v }
  | 1 =>
    if p.pbctl.getLsbD 2 then { p with portbOut := (p.portbOut &&& ~~~p.ddrb) ||| (v &&& p.ddrb) }
    else { p with ddrb := v }
  | 2 => { p with pactl := v &&& 0x3F }
  | _ => { p with pbctl := v &&& 0x3F }

/-- `setJoystick(up, down, left, right)`: active low in the low nibble, high nibble ones (R503). -/
def setJoystick (up down left right : Bool) (p : Pia) : Pia :=
  { p with portaIn :=
      0xF#4 ++ (BitVec.ofBool (!right) ++ (BitVec.ofBool (!left) ++ (BitVec.ofBool (!down) ++ BitVec.ofBool (!up)))) }

end Sys2Proof.Machine
end

