-- ==== Sys2Proof/Machine/Pokey.lean ====
section
/-! DEFINITION. The sound coprocessor (`63_sound.md`): registers, noise polynomials, oscillators, sample generation, keyboard. -/

namespace Sys2Proof.Machine

/-! ## Noise polynomials (R462, R463) -/

/-- `step(p, w, t)`: shift right by one, the new top bit is `p[0] ^ p[t]` (R462). -/
def lfsrStep {w : Nat} (t : Nat) (p : BitVec w) : BitVec w :=
  (p >>> 1) ||| (((BitVec.ofBool (p.getLsbD 0 ^^ p.getLsbD t)).setWidth w) <<< (w - 1))

/-- `PolyStep()`: all four registers advance by one step each, with the taps of R462 (R463). -/
def polyStep (p : Pokey) : Pokey :=
  { p with
    poly4 := lfsrStep Config.poly4Tap p.poly4
    poly5 := lfsrStep Config.poly5Tap p.poly5
    poly9 := lfsrStep Config.poly9Tap p.poly9
    poly17 := lfsrStep Config.poly17Tap p.poly17 }

/-- `RandomValue()`: the top eight bits of the selected long register (R457). -/
def randomValue (p : Pokey) : Byte :=
  if p.audctl.getLsbD 7 then (p.poly9 >>> 1).setWidth 8 else (p.poly17 >>> 9).setWidth 8

/-! ## Periods (R460, R461) -/

/-- Channel `i` is clocked at 1.79 MHz (R456, R461). -/
def fastChannel (audctl : Byte) (i : Nat) : Bool := (i == 0 && audctl.getLsbD 6) || (i == 2 && audctl.getLsbD 5)

/-- Channel `i` runs on the 16-bit divisor of its pair (R456, R461). -/
def joinedChannel (audctl : Byte) (i : Nat) : Bool := (i == 0 && audctl.getLsbD 4) || (i == 2 && audctl.getLsbD 3)

/-- Channel `i` is the disabled second channel of a joined pair (R460). -/
def disabledChannel (audctl : Byte) (i : Nat) : Bool := (i == 1 && audctl.getLsbD 4) || (i == 3 && audctl.getLsbD 3)

/-- `half_cycles(i)` (R461). -/
def halfCycles (audf : Quad Byte) (audctl : Byte) (i : Nat) : Nat :=
  let joined := joinedChannel audctl i
  let n := if joined then (audf.get (i + 1)).toNat * 256 + (audf.get i).toNat else (audf.get i).toNat
  if fastChannel audctl i then n + (if joined then 7 else 4)
  else (n + 1) * (if audctl.getLsbD 0 then 114 else 28)

/-- `max(1, floor(half_cycles * SAMPLE_RATE / CPU_CLOCK + 1/2))` in exact integers (R461). -/
def periodOf (sampleRate half : Nat) : Nat :=
  max 1 ((2 * half * sampleRate + Config.cpuClock) / (2 * Config.cpuClock))

/-- `Recompute()` (R461). -/
def recompute (sampleRate : Nat) (p : Pokey) : Pokey :=
  { p with period := Quad.ofFn fun i => periodOf sampleRate (halfCycles p.audf p.audctl i) }

/-! ## Registers (R452, R453) -/

/-- `SKSTAT` (R471). -/
def skstat (p : Pokey) : Byte := if p.keyDown then 0xFB else 0xFF

/-- `PokeyRead(o)` (R452): the one read of the register window with a side effect is `RANDOM` (R457). -/
def pokeyRead (o : Nat) (p : Pokey) : Byte × Pokey :=
  match o with
  | 0x9 => (p.kbcode, p)
  | 0xA => (randomValue (polyStep p), polyStep p)
  | 0xE => (p.irqst, p)
  | 0xF => (skstat p, p)
  | _ => (Config.ioSentinel, p)

/-- `PokeyWrite(o, v)` (R453). -/
def pokeyWrite (sampleRate o : Nat) (v : Byte) (p : Pokey) : Pokey :=
  match o with
  | 0x0 => recompute sampleRate { p with audf := p.audf.set 0 v }
  | 0x1 => { p with audc := p.audc.set 0 v }
  | 0x2 => recompute sampleRate { p with audf := p.audf.set 1 v }
  | 0x3 => { p with audc := p.audc.set 1 v }
  | 0x4 => recompute sampleRate { p with audf := p.audf.set 2 v }
  | 0x5 => { p with audc := p.audc.set 2 v }
  | 0x6 => recompute sampleRate { p with audf := p.audf.set 3 v }
  | 0x7 => { p with audc := p.audc.set 3 v }
  | 0x8 => recompute sampleRate { p with audctl := v }
  | 0xE => { p with irqen := v, irqst := p.irqst ||| ~~~v }
  | 0xF => { p with skctl := v }
  | _ => p

/-- `IrqPending()` (R334, R475). -/
def irqPending (p : Pokey) : Bool := (~~~p.irqst &&& p.irqen) != 0

/-- `setKey(code, pressed)` (R476): a press of a new key, or of any key after a release, stores the code and, if enabled,
makes the keyboard interrupt pending. -/
def setKey (code : Byte) (pressed : Bool) (p : Pokey) : Pokey :=
  if pressed then
    let p :=
      if !p.keyDown || p.kbcode != code then
        { p with kbcode := code, irqst := if p.irqen.getLsbD 6 then p.irqst &&& 0xBF else p.irqst }
      else p
    { p with keyDown := true }
  else { p with keyDown := false }

/-! ## Sample generation (R464 to R466) -/

/-- `gate(i)` of a distortion code (R464). -/
def gate (code : Nat) (p : Pokey) : Bool :=
  let long := if p.audctl.getLsbD 7 then p.poly9.getLsbD 0 else p.poly17.getLsbD 0
  match code with
  | 0 => p.poly5.getLsbD 0 && long
  | 1 => p.poly5.getLsbD 0
  | 2 => p.poly5.getLsbD 0 && p.poly4.getLsbD 0
  | 3 => p.poly5.getLsbD 0
  | 4 => long
  | 5 => true
  | 6 => p.poly4.getLsbD 0
  | _ => true

/-- One channel after one sample: its divider, its square wave, its level and its output. -/
structure Channel where
  divcnt : Int
  sq : Bool
  last : Int
  out : Int
  deriving DecidableEq, Repr

/-- Channel `i` has the high-pass filter (R456, R465). -/
def highPass (audctl : Byte) (i : Nat) : Bool := (i == 0 && audctl.getLsbD 2) || (i == 1 && audctl.getLsbD 1)

/-- Channel `i` for one sample (R465). -/
def channelSample (p : Pokey) (i : Nat) : Channel :=
  let audc := p.audc.get i
  let vol : Int := (audc.extractLsb' 0 4).toNat
  let d := p.divcnt.get i
  let q := p.sq.get i
  let finish (d : Int) (q : Bool) (cur : Int) : Channel :=
    { divcnt := d, sq := q, last := cur, out := if highPass p.audctl i then cur - p.last.get i else cur }
  if disabledChannel p.audctl i then finish d q 0
  else if audc.getLsbD 4 then finish d q vol
  else
    let under := decide (d - 1 < 0)
    let d' := if under then d - 1 + p.period.get i else d - 1
    let q' := if under then !q else q
    finish d' q' (if q' && gate (audc.extractLsb' 5 3).toNat p then vol else 0)

/-- `clamp(s * 512, -32768, 32767)` as a signed 16-bit value (R466). -/
def mixSample (s : Int) : BitVec 16 := BitVec.ofInt 16 (max (-32768) (min (s * 512) 32767))

/-- Writes sample `i`; samples are written in order, so the buffer grows by one or keeps its length (log entry 7). -/
def putSample (l : List (BitVec 16)) (i : Nat) (v : BitVec 16) : List (BitVec 16) :=
  if i < l.length then l.set i v else l ++ [v]

/-- One turn of the loop of `TopUp()` (R466). -/
def sampleStep (cadence : Nat) (p : Pokey) : Pokey :=
  let tick := p.polyTick + 1
  let p := if tick = cadence then polyStep { p with polyTick := 0 } else { p with polyTick := tick }
  let ch := Quad.ofFn (channelSample p)
  { p with
    divcnt := Quad.ofFn fun i => (ch.get i).divcnt
    sq := Quad.ofFn fun i => (ch.get i).sq
    last := Quad.ofFn fun i => (ch.get i).last
    samples := putSample p.samples p.sampleIndex
      (mixSample ((ch.get 0).out + (ch.get 1).out + (ch.get 2).out + (ch.get 3).out))
    sampleIndex := p.sampleIndex + 1 }

/-- `n` turns of the loop. -/
def sampleSteps (cadence : Nat) : Nat → Pokey → Pokey
  | 0, p => p
  | n + 1, p => sampleSteps cadence n (sampleStep cadence p)

/-- The target index of `TopUp()` (R466). -/
def topUpTarget (samplesPerFrame scanline : Nat) : Nat := (scanline + 1) * samplesPerFrame / Config.scanlinesPerFrame

/-- `TopUp()` for the scanline just completed (R466). -/
def topUp (samplesPerFrame cadence scanline : Nat) (p : Pokey) : Pokey :=
  sampleSteps cadence (topUpTarget samplesPerFrame scanline - p.sampleIndex) p

end Sys2Proof.Machine
end

