-- ==== Sys2Proof/Machine/Ops.lean ====
section
/-! DEFINITION. The named operations over memory and registers: the scan task's latch updates, the router (`20_memory.md`), the
memory primitives of `00_scope.md` R14, the cycle charge, taking an exception (`60_exceptions.md` R340) and returning from
one (`45_flag_system.md` R282). -/

namespace Sys2Proof.Machine

/-! ## The scan task (R111, R523; log entry 8) -/

/-- One indivisible latch update of the scan task (R523). -/
def applyScan (s : State) : ScanEvent → State
  | .joystick u d l r => s.setPia (setJoystick u d l r s.pia)
  | .trigger i p => s.setGtia (setTrigger i p s.gtia)
  | .consoleKey k p => s.setGtia (setConsoleKey k p s.gtia)
  | .key c p => s.setPokey (setKey c p s.pokey)

/-- A place where scan-task events may fall: those scheduled for it happen now (R517(d)). -/
def scanTick (s : State) : State :=
  match s.scan with
  | [] => s
  | evs :: rest => evs.foldl applyScan (s.setScan rest)

/-! ## The router (R70 to R85) -/

/-- The address lies in the hardware register window (R72, R83). -/
def inIoWindow (a : Word) : Bool := decide (Config.ioLo ≤ a.toNat) && decide (a.toNat ≤ Config.ioHi)

/-- The address shows the self-test code (R72). -/
def showsSelftest (p : Pia) (a : Word) : Bool :=
  decide (Config.selftestLo ≤ a.toNat) && decide (a.toNat ≤ Config.selftestHi) && p.selftestEn

/-- The address shows the BASIC image (R72). -/
def showsBasic (p : Pia) (a : Word) : Bool :=
  decide (Config.basicLo ≤ a.toNat) && decide (a.toNat ≤ Config.basicHi) && p.basicRomEn

/-- The address shows the OS image (R72). -/
def showsOs (p : Pia) (a : Word) : Bool :=
  ((decide (Config.os1Lo ≤ a.toNat) && decide (a.toNat ≤ Config.os1Hi)) ||
    (decide (Config.os2Lo ≤ a.toNat) && decide (a.toNat ≤ Config.os2Hi))) && p.osRomEn

/-- The byte of the backing store (R30). -/
def ramByte (s : State) (a : Nat) : Byte := Memory.read Config.ramFill s.ram a
/-- A byte of the OS image (R31). -/
def osByte (s : State) (o : Nat) : Byte := Memory.read Config.romFill s.params.osRom o
/-- A byte of the BASIC image (R31). -/
def basicByte (s : State) (o : Nat) : Byte := Memory.read Config.romFill s.params.basicRom o

/-- What an address outside the register window reads as (R80). -/
def storeByte (s : State) (a : Word) : Byte :=
  if showsSelftest s.pia a then osByte s (a.toNat - Config.selftestLo + Config.selftestOsOffset)
  else if showsBasic s.pia a then basicByte s (a.toNat - Config.basicLo)
  else if showsOs s.pia a then osByte s (a.toNat - Config.os1Lo)
  else ramByte s a.toNat

/-- The register offset of an address in a chip window of the given offset width (R83). -/
def chipOffset (bits : Nat) (a : Word) : Nat := (a.extractLsb' 0 bits).toNat

/-- `IORead(a)` (R84). -/
def ioRead (a : Word) (s : State) : Byte × State :=
  if hiByte a = Config.gtiaPage then (gtiaRead (chipOffset Config.gtiaOffsetBits a) s.gtia, s)
  else if hiByte a = Config.pokeyPage then
    let r := pokeyRead (chipOffset Config.pokeyOffsetBits a) s.pokey
    (r.1, s.setPokey r.2)
  else if hiByte a = Config.piaPage then (piaRead (chipOffset Config.piaOffsetBits a) s.pia, s)
  else if hiByte a = Config.anticPage then (anticRead (chipOffset Config.anticOffsetBits a) s.antic, s)
  else (Config.ioSentinel, s)

/-- `IOWrite(a, v)` (R85). -/
def ioWrite (a : Word) (v : Byte) (s : State) : State :=
  if hiByte a = Config.gtiaPage then s.setGtia (gtiaWrite (chipOffset Config.gtiaOffsetBits a) v s.gtia)
  else if hiByte a = Config.pokeyPage then s.setPokey (pokeyWrite s.params.sampleRate (chipOffset Config.pokeyOffsetBits a) v s.pokey)
  else if hiByte a = Config.piaPage then s.setPia (piaWrite (chipOffset Config.piaOffsetBits a) v s.pia)
  else if hiByte a = Config.anticPage then s.setAntic (anticWrite (chipOffset Config.anticOffsetBits a) v s.antic)
  else s

/-- The router's read of one byte (R80), without the scan task. -/
def routeRead (a : Word) (s : State) : Byte × State :=
  if inIoWindow a then ioRead a s else (storeByte s a, s)

/-- The loader's and the router's write into the backing store (R81, R525). -/
def writeRam (a : Word) (v : Byte) (s : State) : State := s.setRam (Memory.write Config.ramFill s.ram a.toNat v)

/-- The router's write of one byte (R81), also under enabled ROM (R77), without the scan task. -/
def routeWrite (a : Word) (v : Byte) (s : State) : State :=
  if inIoWindow a then ioWrite a v s else writeRam a v s

/-- `MemRead(a, 1)` (R80); scan-task events may fall before it. -/
def memRead (a : Word) (s : State) : Byte × State := routeRead a (scanTick s)

/-- `MemWrite(a, 1, v)` (R81); scan-task events may fall before it. -/
def memWrite (a : Word) (v : Byte) (s : State) : State := routeWrite a v (scanTick s)

/-! ## Derived primitives (R14) -/

/-- `PC <- w`. -/
def setPc (w : Word) (s : State) : State := s.setCpu { s.cpu with pc := w }

/-- `SP <- v`. -/
def setSp (v : Byte) (s : State) : State := s.setCpu { s.cpu with sp := v }

/-- `Read16(a)`: low byte at `a`, high byte at `u16(a + 1)`. -/
def read16 (a : Word) (s : State) : Word × State :=
  let lo := memRead a s
  let hi := memRead (a + 1) lo.2
  (wordOfBytes lo.1 hi.1, hi.2)

/-- `Read16ZP(z)`: low byte at `z`, high byte at `u8(z + 1)`, both in page 0. -/
def read16zp (z : Byte) (s : State) : Word × State :=
  let lo := memRead (z.setWidth 16) s
  let hi := memRead ((z + 1).setWidth 16) lo.2
  (wordOfBytes lo.1 hi.1, hi.2)

/-- `Fetch8()`. -/
def fetch8 (s : State) : Byte × State :=
  let r := memRead s.cpu.pc s
  (r.1, setPc (s.cpu.pc + 1) r.2)

/-- `Fetch16()`: low byte first. -/
def fetch16 (s : State) : Word × State :=
  let lo := fetch8 s
  let hi := fetch8 lo.2
  (wordOfBytes lo.1 hi.1, hi.2)

/-- The stack address `0x0100 + SP` (R22). -/
def stackAddr (sp : Byte) : Word := wordOfBytes sp Config.stackPage

/-- `Push8(v)`: write, then decrement `SP` modulo 256. -/
def push8 (v : Byte) (s : State) : State := setSp (s.cpu.sp - 1) (memWrite (stackAddr s.cpu.sp) v s)

/-- `Pull8()`: increment `SP` modulo 256, then read. -/
def pull8 (s : State) : Byte × State := memRead (stackAddr (s.cpu.sp + 1)) (setSp (s.cpu.sp + 1) s)

/-- The two pushes of a 16-bit value, high byte first (R262, R340). -/
def push16 (w : Word) (s : State) : State := push8 (loByte w) (push8 (hiByte w) s)

/-- The two pulls of a 16-bit value, low byte first (R263, R282). -/
def pull16 (s : State) : Word × State :=
  let lo := pull8 s
  let hi := pull8 lo.2
  (wordOfBytes lo.1 hi.1, hi.2)

/-- Records a cycle cost against the scanline budget (R16, R28, R510). -/
def charge (n : Nat) (s : State) : State := s.setOrch { s.orch with lineCycles := s.orch.lineCycles + n }

/-! ## Exceptions -/

/-- The kinds of `Interrupt(kind)` (R340). -/
inductive Trap where
  | nmi
  | irq
  | brk
  deriving DecidableEq, Repr

/-- The vector of a kind (R341). -/
def Trap.vector : Trap → Word
  | .nmi => Config.vecNmi
  | .irq => Config.vecIrq
  | .brk => Config.vecIrq

/-- The value the entry writes to flag `B` and pushes in bit 4: 0 for IRQ, 1 for NMI and BRK (R340). -/
def Trap.breakBit : Trap → Bool
  | .nmi => true
  | .irq => false
  | .brk => true

/-- Taking an exception, `Interrupt(kind)` (R340): `B` is written, the program counter is pushed high byte first and then the
packed status, `I` is set, and `PC` is read from the vector through the router. -/
def enterTrap (k : Trap) (s : State) : State :=
  let s := s.setCpu { s.cpu with b := k.breakBit }
  let s := push16 s.cpu.pc s
  let s := push8 (packP k.breakBit s.cpu) s
  let s := s.setCpu { s.cpu with i := true }
  let t := read16 k.vector s
  setPc t.1 t.2

/-- Returning from an exception (R282): the status byte, then the program counter with no adjustment; the NMI latch is
released only when `NMI_LATCH_CLEAR_ON_RTI` (R353). -/
def returnTrap (s : State) : State :=
  let p := pull8 s
  let s := p.2.setCpu (unpackP p.1 p.2.cpu)
  let r := pull16 s
  let s := setPc r.1 r.2
  if s.params.nmiLatchClearOnRti then s.setOrch { s.orch with nmiInService := false } else s

/-- `AfterInstruction()` (R350): both requests are taken; an NMI not already in service is entered; then an IRQ, if `I` (as the
NMI entry left it) is clear. Each entry costs 7 cycles (R346). Scan-task events may fall before the check. -/
def afterInstruction (s : State) : State :=
  let s := scanTick s
  let request := s.antic.pendingDli || s.antic.pendingVbi
  let s := s.setAntic (takeRequests s.antic)
  let s :=
    if request && !s.orch.nmiInService then
      charge 7 (enterTrap .nmi (s.setOrch { s.orch with nmiInService := true }))
    else s
  if !s.cpu.i && irqPending s.pokey then charge 7 (enterTrap .irq s) else s

end Sys2Proof.Machine
end

