-- ==== Sys2Proof/Machine/Operands.lean ====
section
/-! DEFINITION. Operand forms: the addressing modes of `30_encoding.md` R140 to R152, and the shapes of instructions over them:
read, store, read-modify-write, branch. Costs are those of `70_reset_and_hazards.md` R570. -/

namespace Sys2Proof.Machine

/-- `sext_16(v)` (R12). -/
def sext16 (v : Byte) : Word := v.signExtend 16

/-- A memory operand: the addressing mode and its operand bytes as fetched. -/
inductive MemMode where
  /-- zero page (R143) -/
  | zp (z : Byte)
  /-- zero page indexed by X (R144) -/
  | zpx (z : Byte)
  /-- zero page indexed by Y (R145) -/
  | zpy (z : Byte)
  /-- absolute (R146) -/
  | abs (w : Word)
  /-- absolute indexed by X (R147) -/
  | absx (w : Word)
  /-- absolute indexed by Y (R148) -/
  | absy (w : Word)
  /-- indexed indirect (R149) -/
  | indx (z : Byte)
  /-- indirect indexed (R150) -/
  | indy (z : Byte)
  deriving DecidableEq, Repr

/-- An effective address and whether its computation crossed a page (`px`). -/
structure EffAddr where
  addr : Word
  px : Bool
  deriving DecidableEq, Repr

/-- `u16(base + index)` with `px <- (EA[15:8] != base[15:8])` (R147, R148, R150). -/
def indexed (base : Word) (index : Byte) : EffAddr :=
  let ea := base + index.setWidth 16
  ⟨ea, hiByte ea != hiByte base⟩

/-- `address()`: the effective address, with the memory accesses its computation makes (R143 to R150). -/
def effAddr (m : MemMode) (s : State) : EffAddr × State :=
  match m with
  | .zp z => (⟨z.setWidth 16, false⟩, s)
  | .zpx z => (⟨(z + s.cpu.x).setWidth 16, false⟩, s)
  | .zpy z => (⟨(z + s.cpu.y).setWidth 16, false⟩, s)
  | .abs w => (⟨w, false⟩, s)
  | .absx w => (indexed w s.cpu.x, s)
  | .absy w => (indexed w s.cpu.y, s)
  | .indx z =>
    let p := read16zp (z + s.cpu.x) s
    (⟨p.1, false⟩, p.2)
  | .indy z =>
    let p := read16zp z s
    (indexed p.1 s.cpu.y, p.2)

/-- The outcome of a meaning. -/
abbrev Result := Host.Outcome State Fault Refusal

/-- The extra cycles of a page-crossing access: `pen` when `px` (R570). -/
def pageCost (pen : Nat) (e : EffAddr) : Nat := if e.px then pen else 0

/-- An instruction with no operand that changes the register file only. -/
def impliedInstr (cost : Nat) (f : Cpu → Cpu) (s : State) : Result := .next (charge cost (s.setCpu (f s.cpu)))

/-- An instruction that reads the immediate operand `m` (R142). -/
def immInstr (cost : Nat) (f : Byte → Cpu → Cpu) (m : Byte) (s : State) : Result :=
  .next (charge cost (s.setCpu (f m s.cpu)))

/-- An instruction that reads a memory operand: one read of the effective address (`operand()`). -/
def readInstr (cost pen : Nat) (f : Byte → Cpu → Cpu) (m : MemMode) (s : State) : Result :=
  let e := effAddr m s
  let r := memRead e.1.addr e.2
  .next (charge (cost + pageCost pen e.1) (r.2.setCpu (f r.1 r.2.cpu)))

/-- An instruction that stores `v`: one write of the effective address and no read of it (R101). -/
def storeInstr (cost : Nat) (v : Byte) (m : MemMode) (s : State) : Result :=
  let e := effAddr m s
  .next (charge cost (memWrite e.1.addr v e.2))

/-- A read-modify-write instruction: one read, then one write of the same address (R101, R230). -/
def rmwInstr (cost : Nat) (f : Byte → Cpu → Byte × Cpu) (m : MemMode) (s : State) : Result :=
  let e := effAddr m s
  let r := memRead e.1.addr e.2
  let u := f r.1 r.2.cpu
  .next (charge cost (memWrite e.1.addr u.1 (r.2.setCpu u.2)))

/-- A shift or rotate of the accumulator (R141, R230). -/
def accInstr (cost : Nat) (f : Byte → Cpu → Byte × Cpu) (s : State) : Result :=
  let u := f s.cpu.a s.cpu
  .next (charge cost (s.setCpu { u.2 with a := u.1 }))

/-- A conditional branch: `PC` addresses the next instruction; a taken branch costs one cycle more, and one more if the
target lies in another page (R152, R570). -/
def branchInstr (cond : Bool) (d : Byte) (s : State) : Result :=
  if cond then
    let target := s.cpu.pc + sext16 d
    .next (charge (3 + (if hiByte target = hiByte s.cpu.pc then 0 else 1)) (setPc target s))
  else .next (charge 2 s)

end Sys2Proof.Machine
end

