-- ==== Sys2Proof/Machine/Arith.lean ====
section
/-! DEFINITION. Arithmetic, compare, increment and decrement (`42_arithmetic.md` R200 to R217). -/

namespace Sys2Proof.Machine

/-- CMP's effect: `A` against the operand (R209). -/
def cmpA (m : Byte) (c : Cpu) : Cpu := cmpFlags c.a m c

/-- CPX's effect: `X` against the operand (R210). -/
def cmpX (m : Byte) (c : Cpu) : Cpu := cmpFlags c.x m c

/-- CPY's effect: `Y` against the operand (R211). -/
def cmpY (m : Byte) (c : Cpu) : Cpu := cmpFlags c.y m c

/-- 0x61 `ADC (z,X)` (R202, R149): 6 cycles. -/
def execAdcIndx (z : Byte) (s : State) : Result := readInstr 6 0 adc (.indx z) s

/-- 0x65 `ADC z` (R202, R143): 3 cycles. -/
def execAdcZp (z : Byte) (s : State) : Result := readInstr 3 0 adc (.zp z) s

/-- 0x69 `ADC #m` (R202, R142): 2 cycles. -/
def execAdcImm (m : Byte) (s : State) : Result := immInstr 2 adc m s

/-- 0x6D `ADC w` (R202, R146): 4 cycles. -/
def execAdcAbs (w : Word) (s : State) : Result := readInstr 4 0 adc (.abs w) s

/-- 0x71 `ADC (z),Y` (R202, R150): 5 cycles (+1 if px). -/
def execAdcIndy (z : Byte) (s : State) : Result := readInstr 5 1 adc (.indy z) s

/-- 0x75 `ADC z,X` (R202, R144): 4 cycles. -/
def execAdcZpx (z : Byte) (s : State) : Result := readInstr 4 0 adc (.zpx z) s

/-- 0x79 `ADC w,Y` (R202, R148): 4 cycles (+1 if px). -/
def execAdcAbsy (w : Word) (s : State) : Result := readInstr 4 1 adc (.absy w) s

/-- 0x7D `ADC w,X` (R202, R147): 4 cycles (+1 if px). -/
def execAdcAbsx (w : Word) (s : State) : Result := readInstr 4 1 adc (.absx w) s

/-- 0xE1 `SBC (z,X)` (R205, R149): 6 cycles. -/
def execSbcIndx (z : Byte) (s : State) : Result := readInstr 6 0 sbc (.indx z) s

/-- 0xE5 `SBC z` (R205, R143): 3 cycles. -/
def execSbcZp (z : Byte) (s : State) : Result := readInstr 3 0 sbc (.zp z) s

/-- 0xE9 `SBC #m` (R205, R142): 2 cycles. -/
def execSbcImm (m : Byte) (s : State) : Result := immInstr 2 sbc m s

/-- 0xED `SBC w` (R205, R146): 4 cycles. -/
def execSbcAbs (w : Word) (s : State) : Result := readInstr 4 0 sbc (.abs w) s

/-- 0xF1 `SBC (z),Y` (R205, R150): 5 cycles (+1 if px). -/
def execSbcIndy (z : Byte) (s : State) : Result := readInstr 5 1 sbc (.indy z) s

/-- 0xF5 `SBC z,X` (R205, R144): 4 cycles. -/
def execSbcZpx (z : Byte) (s : State) : Result := readInstr 4 0 sbc (.zpx z) s

/-- 0xF9 `SBC w,Y` (R205, R148): 4 cycles (+1 if px). -/
def execSbcAbsy (w : Word) (s : State) : Result := readInstr 4 1 sbc (.absy w) s

/-- 0xFD `SBC w,X` (R205, R147): 4 cycles (+1 if px). -/
def execSbcAbsx (w : Word) (s : State) : Result := readInstr 4 1 sbc (.absx w) s

/-- 0xC1 `CMP (z,X)` (R209, R149): 6 cycles. -/
def execCmpIndx (z : Byte) (s : State) : Result := readInstr 6 0 cmpA (.indx z) s

/-- 0xC5 `CMP z` (R209, R143): 3 cycles. -/
def execCmpZp (z : Byte) (s : State) : Result := readInstr 3 0 cmpA (.zp z) s

/-- 0xC9 `CMP #m` (R209, R142): 2 cycles. -/
def execCmpImm (m : Byte) (s : State) : Result := immInstr 2 cmpA m s

/-- 0xCD `CMP w` (R209, R146): 4 cycles. -/
def execCmpAbs (w : Word) (s : State) : Result := readInstr 4 0 cmpA (.abs w) s

/-- 0xD1 `CMP (z),Y` (R209, R150): 5 cycles (+1 if px). -/
def execCmpIndy (z : Byte) (s : State) : Result := readInstr 5 1 cmpA (.indy z) s

/-- 0xD5 `CMP z,X` (R209, R144): 4 cycles. -/
def execCmpZpx (z : Byte) (s : State) : Result := readInstr 4 0 cmpA (.zpx z) s

/-- 0xD9 `CMP w,Y` (R209, R148): 4 cycles (+1 if px). -/
def execCmpAbsy (w : Word) (s : State) : Result := readInstr 4 1 cmpA (.absy w) s

/-- 0xDD `CMP w,X` (R209, R147): 4 cycles (+1 if px). -/
def execCmpAbsx (w : Word) (s : State) : Result := readInstr 4 1 cmpA (.absx w) s

/-- 0xE0 `CPX #m` (R210, R142): 2 cycles. -/
def execCpxImm (m : Byte) (s : State) : Result := immInstr 2 cmpX m s

/-- 0xE4 `CPX z` (R210, R143): 3 cycles. -/
def execCpxZp (z : Byte) (s : State) : Result := readInstr 3 0 cmpX (.zp z) s

/-- 0xEC `CPX w` (R210, R146): 4 cycles. -/
def execCpxAbs (w : Word) (s : State) : Result := readInstr 4 0 cmpX (.abs w) s

/-- 0xC0 `CPY #m` (R211, R142): 2 cycles. -/
def execCpyImm (m : Byte) (s : State) : Result := immInstr 2 cmpY m s

/-- 0xC4 `CPY z` (R211, R143): 3 cycles. -/
def execCpyZp (z : Byte) (s : State) : Result := readInstr 3 0 cmpY (.zp z) s

/-- 0xCC `CPY w` (R211, R146): 4 cycles. -/
def execCpyAbs (w : Word) (s : State) : Result := readInstr 4 0 cmpY (.abs w) s

/-- 0xE6 `INC z` (R212, R143): 5 cycles. -/
def execIncZp (z : Byte) (s : State) : Result := rmwInstr 5 increment (.zp z) s

/-- 0xEE `INC w` (R212, R146): 6 cycles. -/
def execIncAbs (w : Word) (s : State) : Result := rmwInstr 6 increment (.abs w) s

/-- 0xF6 `INC z,X` (R212, R144): 6 cycles. -/
def execIncZpx (z : Byte) (s : State) : Result := rmwInstr 6 increment (.zpx z) s

/-- 0xFE `INC w,X` (R212, R147): 7 cycles. -/
def execIncAbsx (w : Word) (s : State) : Result := rmwInstr 7 increment (.absx w) s

/-- 0xC6 `DEC z` (R213, R143): 5 cycles. -/
def execDecZp (z : Byte) (s : State) : Result := rmwInstr 5 decrement (.zp z) s

/-- 0xCE `DEC w` (R213, R146): 6 cycles. -/
def execDecAbs (w : Word) (s : State) : Result := rmwInstr 6 decrement (.abs w) s

/-- 0xD6 `DEC z,X` (R213, R144): 6 cycles. -/
def execDecZpx (z : Byte) (s : State) : Result := rmwInstr 6 decrement (.zpx z) s

/-- 0xDE `DEC w,X` (R213, R147): 7 cycles. -/
def execDecAbsx (w : Word) (s : State) : Result := rmwInstr 7 decrement (.absx w) s

/-- 0xE8 `INX` (R214, R140): 2 cycles. -/
def execInx (s : State) : Result := impliedInstr 2 (fun c => loadX (c.x + 1) c) s

/-- 0xC8 `INY` (R215, R140): 2 cycles. -/
def execIny (s : State) : Result := impliedInstr 2 (fun c => loadY (c.y + 1) c) s

/-- 0xCA `DEX` (R216, R140): 2 cycles. -/
def execDex (s : State) : Result := impliedInstr 2 (fun c => loadX (c.x - 1) c) s

/-- 0x88 `DEY` (R217, R140): 2 cycles. -/
def execDey (s : State) : Result := impliedInstr 2 (fun c => loadY (c.y - 1) c) s

end Sys2Proof.Machine
end

