-- ==== Sys2Proof/Machine/Branch.lean ====
section
/-! DEFINITION. Branch, jump and subroutine (`44_branch_jump.md` R250 to R263). -/

namespace Sys2Proof.Machine

/-- Where JMP indirect reads the high byte of its target: with `JMP_IND_PAGE_WRAP` the pointer's page is kept (R151, R261). -/
def indirectHigh (p : Word) : Word :=
  if Config.jmpIndPageWrap then wordOfBytes (loByte p + 1) (hiByte p) else p + 1

/-- 0x90 `BCC d` (R251, R152): 2 cycles (+1 if taken, +1 more if px). -/
def execBcc (d : Byte) (s : State) : Result := branchInstr (!s.cpu.c) d s

/-- 0xB0 `BCS d` (R252, R152): 2 cycles (+1 if taken, +1 more if px). -/
def execBcs (d : Byte) (s : State) : Result := branchInstr s.cpu.c d s

/-- 0xF0 `BEQ d` (R253, R152): 2 cycles (+1 if taken, +1 more if px). -/
def execBeq (d : Byte) (s : State) : Result := branchInstr s.cpu.z d s

/-- 0xD0 `BNE d` (R254, R152): 2 cycles (+1 if taken, +1 more if px). -/
def execBne (d : Byte) (s : State) : Result := branchInstr (!s.cpu.z) d s

/-- 0x30 `BMI d` (R255, R152): 2 cycles (+1 if taken, +1 more if px). -/
def execBmi (d : Byte) (s : State) : Result := branchInstr s.cpu.n d s

/-- 0x10 `BPL d` (R256, R152): 2 cycles (+1 if taken, +1 more if px). -/
def execBpl (d : Byte) (s : State) : Result := branchInstr (!s.cpu.n) d s

/-- 0x50 `BVC d` (R257, R152): 2 cycles (+1 if taken, +1 more if px). -/
def execBvc (d : Byte) (s : State) : Result := branchInstr (!s.cpu.v) d s

/-- 0x70 `BVS d` (R258, R152): 2 cycles (+1 if taken, +1 more if px). -/
def execBvs (d : Byte) (s : State) : Result := branchInstr s.cpu.v d s

/-- 0x4C `JMP w` (R260, R146): 3 cycles. -/
def execJmpAbs (w : Word) (s : State) : Result := .next (charge 3 (setPc w s))

/-- 0x6C `JMP (w)` (R261, R151): 5 cycles. -/
def execJmpInd (w : Word) (s : State) : Result :=
  let lo := memRead w s
  let hi := memRead (indirectHigh w) lo.2
  .next (charge 5 (setPc (wordOfBytes lo.1 hi.1) hi.2))

/-- 0x20 `JSR w` (R262, R146): 6 cycles. -/
def execJsr (w : Word) (s : State) : Result := .next (charge 6 (setPc w (push16 (s.cpu.pc - 1) s)))

/-- 0x60 `RTS` (R263, R140): 6 cycles. -/
def execRts (s : State) : Result :=
  let r := pull16 s
  .next (charge 6 (setPc (r.1 + 1) r.2))

end Sys2Proof.Machine
end

