-- ==== Sys2Proof/Machine/DisplayList.lean ====
section
/-! DEFINITION. The display-list instructions of the video coprocessor (`47_display_list.md` R300 to R313). Each meaning runs
after the fetch of the instruction's bytes, with `dl_pc` after the last of them and their cost in `dma_cycles` (log entry 19). -/

namespace Sys2Proof.Machine

/-- The six rendering algorithms (R400 to R405). -/
inductive Renderer where
  /-- two-colour text (R400) -/
  | t2
  /-- four-colour text (R401) -/
  | t4
  /-- five-palette double-width text (R402) -/
  | t5
  /-- two-bit bitmap, doubled width (R403) -/
  | b2d
  /-- two-bit bitmap, single width (R404) -/
  | b2s
  /-- one-bit hires bitmap (R405) -/
  | b1
  deriving DecidableEq, Repr

/-- One entry of `MODE_TABLE` (R312). -/
structure ModeRow where
  height : Nat
  isChar : Bool
  bytes : Nat
  renderer : Renderer
  deriving DecidableEq, Repr

/-- `MODE_TABLE` (R312); entries 0 and 1 are not mode lines. -/
def modeTable : List (Option ModeRow) := [
  none,
  none,
  some ⟨8, true, 40, .t2⟩,
  some ⟨10, true, 40, .t2⟩,
  some ⟨8, true, 40, .t4⟩,
  some ⟨16, true, 40, .t4⟩,
  some ⟨8, true, 20, .t5⟩,
  some ⟨16, true, 20, .t5⟩,
  some ⟨8, false, 10, .b2s⟩,
  some ⟨4, false, 10, .b2s⟩,
  some ⟨4, false, 20, .b2d⟩,
  some ⟨2, false, 20, .b2s⟩,
  some ⟨1, false, 20, .b2s⟩,
  some ⟨2, false, 40, .b2s⟩,
  some ⟨1, false, 40, .b2s⟩,
  some ⟨1, false, 40, .b1⟩]

/-- The entry of mode `m`. -/
def modeRow (m : BitVec 4) : Option ModeRow := modeTable.getD m.toNat none

/-- `units(bytes, w)` for the widths 1 narrow, 2 standard, 3 wide (R313). -/
def unitsOf (bytes w : Nat) : Nat :=
  match w with
  | 1 => bytes * 4 / 5
  | 2 => bytes
  | _ => bytes * 6 / 5

/-- `xoff(w)` in pixels (R313). -/
def xoffOf (w : Nat) : Nat :=
  match w with
  | 1 => 64
  | 2 => 32
  | _ => 0

/-- `Width(bytes, w, hs)` (R313) written to the decoded mode-line state. With `w = 0` it "is not evaluated", so nothing is
written; no mode line is decoded in that case (log entry 17). -/
def putWidth (bytes : Nat) (hs : Bool) (a : Antic) : Antic :=
  let w := a.width
  if w = 0 then a
  else
    { a with
      renderUnits := unitsOf bytes w
      xOffset := xoffOf w
      stride := if hs then unitsOf bytes (min (w + 1) 3) else unitsOf bytes w }

/-- The latching of the modifiers at the start of every decode (R304). -/
def latchModifiers (dli vs hs : Bool) (a : Antic) : Antic :=
  { a with curDli := dli, curVscroll := vs, curHscroll := hs, rowInMode := 0 }

/-- The DLI modifier at the end of every decode (R310). -/
def dliModifier (a : Antic) : Antic := if a.curDli then raiseDli a else a

/-- `BLANK n`, `n = count + 1` (R305); bits 5 and 4 of the byte, latched as modifiers, are bits 1 and 0 of the count (R304). -/
def blankLine (count : BitVec 3) (a : Antic) : Antic :=
  { a with curMode := 0, rowsLeft := count.toNat + 1, modeHeight := count.toNat + 1 }

/-- `JMP addr` (R306): one background scanline. -/
def jumpLine (addr : Word) (a : Antic) : Antic :=
  { a with dlPc := addr, curMode := 0, rowsLeft := 1, modeHeight := 1 }

/-- `JVB addr` (R307): display-list processing stops until the frame start, and the vertical-blank interrupt is raised. -/
def jumpWait (addr : Word) (a : Antic) : Antic :=
  raiseVbi { a with dlPc := addr, curMode := 0, rowsLeft := 0, dlActive := false }

/-- `MODE m` (R308) with the table entry of `m`. -/
def modeLine (m : BitVec 4) (r : ModeRow) (a : Antic) : Antic :=
  putWidth r.bytes a.curHscroll
    { a with
      curMode := m
      modeHeight := r.height
      isChar := r.isChar
      bytesPerLine := r.bytes
      rowsLeft := r.height }

/-- `+LMS addr` (R309); `dl_pc` is already past the operand. -/
def loadMemscan (addr : Word) (a : Antic) : Antic := { a with memscan := addr }

/-- BLANK (R305). -/
def execDlBlank (dli : Bool) (count : BitVec 3) (s : State) : Result :=
  .next (s.setAntic (dliModifier (blankLine count
    (latchModifiers dli (count.getLsbD 1) (count.getLsbD 0) s.antic))))

/-- JMP (R306). -/
def execDlJmp (dli vs hs : Bool) (addr : Word) (s : State) : Result :=
  .next (s.setAntic (dliModifier (jumpLine addr (latchModifiers dli vs hs s.antic))))

/-- JVB (R307). -/
def execDlJvb (dli vs hs : Bool) (addr : Word) (s : State) : Result :=
  .next (s.setAntic (dliModifier (jumpWait addr (latchModifiers dli vs hs s.antic))))

/-- MODE 2 to 15 (R308). -/
def execDlMode (dli vs hs : Bool) (m : BitVec 4) (s : State) : Result :=
  match modeRow m with
  | some r => .next (s.setAntic (dliModifier (modeLine m r (latchModifiers dli vs hs s.antic))))
  | none => .refused .notAModeLine

/-- MODE 2 to 15 with `+LMS` (R308, R309). -/
def execDlModeLms (dli vs hs : Bool) (m : BitVec 4) (addr : Word) (s : State) : Result :=
  match modeRow m with
  | some r =>
    .next (s.setAntic (dliModifier (loadMemscan addr (modeLine m r (latchModifiers dli vs hs s.antic)))))
  | none => .refused .notAModeLine

end Sys2Proof.Machine
end

