-- ==== Sys2Proof/Machine/LoadStore.lean ====
section
/-! DEFINITION. Load, store and register transfer (`40_load_store_transfer.md` R170 to R182). Each meaning runs after the fetch of the
instruction, with `PC` at the next instruction (R16). -/

namespace Sys2Proof.Machine

/-- 0xA1 `LDA (z,X)` (R171, R149): 6 cycles. -/
def execLdaIndx (z : Byte) (s : State) : Result := readInstr 6 0 loadA (.indx z) s

/-- 0xA5 `LDA z` (R171, R143): 3 cycles. -/
def execLdaZp (z : Byte) (s : State) : Result := readInstr 3 0 loadA (.zp z) s

/-- 0xA9 `LDA #m` (R171, R142): 2 cycles. -/
def execLdaImm (m : Byte) (s : State) : Result := immInstr 2 loadA m s

/-- 0xAD `LDA w` (R171, R146): 4 cycles. -/
def execLdaAbs (w : Word) (s : State) : Result := readInstr 4 0 loadA (.abs w) s

/-- 0xB1 `LDA (z),Y` (R171, R150): 5 cycles (+1 if px). -/
def execLdaIndy (z : Byte) (s : State) : Result := readInstr 5 1 loadA (.indy z) s

/-- 0xB5 `LDA z,X` (R171, R144): 4 cycles. -/
def execLdaZpx (z : Byte) (s : State) : Result := readInstr 4 0 loadA (.zpx z) s

/-- 0xB9 `LDA w,Y` (R171, R148): 4 cycles (+1 if px). -/
def execLdaAbsy (w : Word) (s : State) : Result := readInstr 4 1 loadA (.absy w) s

/-- 0xBD `LDA w,X` (R171, R147): 4 cycles (+1 if px). -/
def execLdaAbsx (w : Word) (s : State) : Result := readInstr 4 1 loadA (.absx w) s

/-- 0xA2 `LDX #m` (R172, R142): 2 cycles. -/
def execLdxImm (m : Byte) (s : State) : Result := immInstr 2 loadX m s

/-- 0xA6 `LDX z` (R172, R143): 3 cycles. -/
def execLdxZp (z : Byte) (s : State) : Result := readInstr 3 0 loadX (.zp z) s

/-- 0xAE `LDX w` (R172, R146): 4 cycles. -/
def execLdxAbs (w : Word) (s : State) : Result := readInstr 4 0 loadX (.abs w) s

/-- 0xB6 `LDX z,Y` (R172, R145): 4 cycles. -/
def execLdxZpy (z : Byte) (s : State) : Result := readInstr 4 0 loadX (.zpy z) s

/-- 0xBE `LDX w,Y` (R172, R148): 4 cycles (+1 if px). -/
def execLdxAbsy (w : Word) (s : State) : Result := readInstr 4 1 loadX (.absy w) s

/-- 0xA0 `LDY #m` (R173, R142): 2 cycles. -/
def execLdyImm (m : Byte) (s : State) : Result := immInstr 2 loadY m s

/-- 0xA4 `LDY z` (R173, R143): 3 cycles. -/
def execLdyZp (z : Byte) (s : State) : Result := readInstr 3 0 loadY (.zp z) s

/-- 0xAC `LDY w` (R173, R146): 4 cycles. -/
def execLdyAbs (w : Word) (s : State) : Result := readInstr 4 0 loadY (.abs w) s

/-- 0xB4 `LDY z,X` (R173, R144): 4 cycles. -/
def execLdyZpx (z : Byte) (s : State) : Result := readInstr 4 0 loadY (.zpx z) s

/-- 0xBC `LDY w,X` (R173, R147): 4 cycles (+1 if px). -/
def execLdyAbsx (w : Word) (s : State) : Result := readInstr 4 1 loadY (.absx w) s

/-- 0x81 `STA (z,X)` (R174, R149): 6 cycles. -/
def execStaIndx (z : Byte) (s : State) : Result := storeInstr 6 s.cpu.a (.indx z) s

/-- 0x85 `STA z` (R174, R143): 3 cycles. -/
def execStaZp (z : Byte) (s : State) : Result := storeInstr 3 s.cpu.a (.zp z) s

/-- 0x8D `STA w` (R174, R146): 4 cycles. -/
def execStaAbs (w : Word) (s : State) : Result := storeInstr 4 s.cpu.a (.abs w) s

/-- 0x91 `STA (z),Y` (R174, R150): 6 cycles. -/
def execStaIndy (z : Byte) (s : State) : Result := storeInstr 6 s.cpu.a (.indy z) s

/-- 0x95 `STA z,X` (R174, R144): 4 cycles. -/
def execStaZpx (z : Byte) (s : State) : Result := storeInstr 4 s.cpu.a (.zpx z) s

/-- 0x99 `STA w,Y` (R174, R148): 5 cycles. -/
def execStaAbsy (w : Word) (s : State) : Result := storeInstr 5 s.cpu.a (.absy w) s

/-- 0x9D `STA w,X` (R174, R147): 5 cycles. -/
def execStaAbsx (w : Word) (s : State) : Result := storeInstr 5 s.cpu.a (.absx w) s

/-- 0x86 `STX z` (R175, R143): 3 cycles. -/
def execStxZp (z : Byte) (s : State) : Result := storeInstr 3 s.cpu.x (.zp z) s

/-- 0x8E `STX w` (R175, R146): 4 cycles. -/
def execStxAbs (w : Word) (s : State) : Result := storeInstr 4 s.cpu.x (.abs w) s

/-- 0x96 `STX z,Y` (R175, R145): 4 cycles. -/
def execStxZpy (z : Byte) (s : State) : Result := storeInstr 4 s.cpu.x (.zpy z) s

/-- 0x84 `STY z` (R176, R143): 3 cycles. -/
def execStyZp (z : Byte) (s : State) : Result := storeInstr 3 s.cpu.y (.zp z) s

/-- 0x8C `STY w` (R176, R146): 4 cycles. -/
def execStyAbs (w : Word) (s : State) : Result := storeInstr 4 s.cpu.y (.abs w) s

/-- 0x94 `STY z,X` (R176, R144): 4 cycles. -/
def execStyZpx (z : Byte) (s : State) : Result := storeInstr 4 s.cpu.y (.zpx z) s

/-- 0xAA `TAX` (R177, R140): 2 cycles. -/
def execTax (s : State) : Result := impliedInstr 2 (fun c => loadX c.a c) s

/-- 0xA8 `TAY` (R178, R140): 2 cycles. -/
def execTay (s : State) : Result := impliedInstr 2 (fun c => loadY c.a c) s

/-- 0x8A `TXA` (R179, R140): 2 cycles. -/
def execTxa (s : State) : Result := impliedInstr 2 (fun c => loadA c.x c) s

/-- 0x98 `TYA` (R180, R140): 2 cycles. -/
def execTya (s : State) : Result := impliedInstr 2 (fun c => loadA c.y c) s

/-- 0xBA `TSX` (R181, R140): 2 cycles. -/
def execTsx (s : State) : Result := impliedInstr 2 (fun c => loadX c.sp c) s

/-- 0x9A `TXS` (R182, R140): 2 cycles. -/
def execTxs (s : State) : Result := impliedInstr 2 (fun c => { c with sp := c.x }) s

end Sys2Proof.Machine
end

