-- ==== Sys2Proof/Machine/Logic.lean ====
section
/-! DEFINITION. Logic, bit test, shift and rotate (`43_logic_shift.md` R230 to R238). -/

namespace Sys2Proof.Machine

/-- AND's effect (R231). -/
def andA (m : Byte) (c : Cpu) : Cpu := loadA (c.a &&& m) c

/-- ORA's effect (R232). -/
def oraA (m : Byte) (c : Cpu) : Cpu := loadA (c.a ||| m) c

/-- EOR's effect (R233). -/
def eorA (m : Byte) (c : Cpu) : Cpu := loadA (c.a ^^^ m) c

/-- 0x21 `AND (z,X)` (R231, R149): 6 cycles. -/
def execAndIndx (z : Byte) (s : State) : Result := readInstr 6 0 andA (.indx z) s

/-- 0x25 `AND z` (R231, R143): 3 cycles. -/
def execAndZp (z : Byte) (s : State) : Result := readInstr 3 0 andA (.zp z) s

/-- 0x29 `AND #m` (R231, R142): 2 cycles. -/
def execAndImm (m : Byte) (s : State) : Result := immInstr 2 andA m s

/-- 0x2D `AND w` (R231, R146): 4 cycles. -/
def execAndAbs (w : Word) (s : State) : Result := readInstr 4 0 andA (.abs w) s

/-- 0x31 `AND (z),Y` (R231, R150): 5 cycles (+1 if px). -/
def execAndIndy (z : Byte) (s : State) : Result := readInstr 5 1 andA (.indy z) s

/-- 0x35 `AND z,X` (R231, R144): 4 cycles. -/
def execAndZpx (z : Byte) (s : State) : Result := readInstr 4 0 andA (.zpx z) s

/-- 0x39 `AND w,Y` (R231, R148): 4 cycles (+1 if px). -/
def execAndAbsy (w : Word) (s : State) : Result := readInstr 4 1 andA (.absy w) s

/-- 0x3D `AND w,X` (R231, R147): 4 cycles (+1 if px). -/
def execAndAbsx (w : Word) (s : State) : Result := readInstr 4 1 andA (.absx w) s

/-- 0x01 `ORA (z,X)` (R232, R149): 6 cycles. -/
def execOraIndx (z : Byte) (s : State) : Result := readInstr 6 0 oraA (.indx z) s

/-- 0x05 `ORA z` (R232, R143): 3 cycles. -/
def execOraZp (z : Byte) (s : State) : Result := readInstr 3 0 oraA (.zp z) s

/-- 0x09 `ORA #m` (R232, R142): 2 cycles. -/
def execOraImm (m : Byte) (s : State) : Result := immInstr 2 oraA m s

/-- 0x0D `ORA w` (R232, R146): 4 cycles. -/
def execOraAbs (w : Word) (s : State) : Result := readInstr 4 0 oraA (.abs w) s

/-- 0x11 `ORA (z),Y` (R232, R150): 5 cycles (+1 if px). -/
def execOraIndy (z : Byte) (s : State) : Result := readInstr 5 1 oraA (.indy z) s

/-- 0x15 `ORA z,X` (R232, R144): 4 cycles. -/
def execOraZpx (z : Byte) (s : State) : Result := readInstr 4 0 oraA (.zpx z) s

/-- 0x19 `ORA w,Y` (R232, R148): 4 cycles (+1 if px). -/
def execOraAbsy (w : Word) (s : State) : Result := readInstr 4 1 oraA (.absy w) s

/-- 0x1D `ORA w,X` (R232, R147): 4 cycles (+1 if px). -/
def execOraAbsx (w : Word) (s : State) : Result := readInstr 4 1 oraA (.absx w) s

/-- 0x41 `EOR (z,X)` (R233, R149): 6 cycles. -/
def execEorIndx (z : Byte) (s : State) : Result := readInstr 6 0 eorA (.indx z) s

/-- 0x45 `EOR z` (R233, R143): 3 cycles. -/
def execEorZp (z : Byte) (s : State) : Result := readInstr 3 0 eorA (.zp z) s

/-- 0x49 `EOR #m` (R233, R142): 2 cycles. -/
def execEorImm (m : Byte) (s : State) : Result := immInstr 2 eorA m s

/-- 0x4D `EOR w` (R233, R146): 4 cycles. -/
def execEorAbs (w : Word) (s : State) : Result := readInstr 4 0 eorA (.abs w) s

/-- 0x51 `EOR (z),Y` (R233, R150): 5 cycles (+1 if px). -/
def execEorIndy (z : Byte) (s : State) : Result := readInstr 5 1 eorA (.indy z) s

/-- 0x55 `EOR z,X` (R233, R144): 4 cycles. -/
def execEorZpx (z : Byte) (s : State) : Result := readInstr 4 0 eorA (.zpx z) s

/-- 0x59 `EOR w,Y` (R233, R148): 4 cycles (+1 if px). -/
def execEorAbsy (w : Word) (s : State) : Result := readInstr 4 1 eorA (.absy w) s

/-- 0x5D `EOR w,X` (R233, R147): 4 cycles (+1 if px). -/
def execEorAbsx (w : Word) (s : State) : Result := readInstr 4 1 eorA (.absx w) s

/-- 0x24 `BIT z` (R234, R143): 3 cycles. -/
def execBitZp (z : Byte) (s : State) : Result := readInstr 3 0 bitTest (.zp z) s

/-- 0x2C `BIT w` (R234, R146): 4 cycles. -/
def execBitAbs (w : Word) (s : State) : Result := readInstr 4 0 bitTest (.abs w) s

/-- 0x06 `ASL z` (R235, R143): 5 cycles. -/
def execAslZp (z : Byte) (s : State) : Result := rmwInstr 5 shiftLeft (.zp z) s

/-- 0x0A `ASL A` (R235, R141): 2 cycles. -/
def execAslAcc (s : State) : Result := accInstr 2 shiftLeft s

/-- 0x0E `ASL w` (R235, R146): 6 cycles. -/
def execAslAbs (w : Word) (s : State) : Result := rmwInstr 6 shiftLeft (.abs w) s

/-- 0x16 `ASL z,X` (R235, R144): 6 cycles. -/
def execAslZpx (z : Byte) (s : State) : Result := rmwInstr 6 shiftLeft (.zpx z) s

/-- 0x1E `ASL w,X` (R235, R147): 7 cycles. -/
def execAslAbsx (w : Word) (s : State) : Result := rmwInstr 7 shiftLeft (.absx w) s

/-- 0x46 `LSR z` (R236, R143): 5 cycles. -/
def execLsrZp (z : Byte) (s : State) : Result := rmwInstr 5 shiftRight (.zp z) s

/-- 0x4A `LSR A` (R236, R141): 2 cycles. -/
def execLsrAcc (s : State) : Result := accInstr 2 shiftRight s

/-- 0x4E `LSR w` (R236, R146): 6 cycles. -/
def execLsrAbs (w : Word) (s : State) : Result := rmwInstr 6 shiftRight (.abs w) s

/-- 0x56 `LSR z,X` (R236, R144): 6 cycles. -/
def execLsrZpx (z : Byte) (s : State) : Result := rmwInstr 6 shiftRight (.zpx z) s

/-- 0x5E `LSR w,X` (R236, R147): 7 cycles. -/
def execLsrAbsx (w : Word) (s : State) : Result := rmwInstr 7 shiftRight (.absx w) s

/-- 0x26 `ROL z` (R237, R143): 5 cycles. -/
def execRolZp (z : Byte) (s : State) : Result := rmwInstr 5 rotateLeft (.zp z) s

/-- 0x2A `ROL A` (R237, R141): 2 cycles. -/
def execRolAcc (s : State) : Result := accInstr 2 rotateLeft s

/-- 0x2E `ROL w` (R237, R146): 6 cycles. -/
def execRolAbs (w : Word) (s : State) : Result := rmwInstr 6 rotateLeft (.abs w) s

/-- 0x36 `ROL z,X` (R237, R144): 6 cycles. -/
def execRolZpx (z : Byte) (s : State) : Result := rmwInstr 6 rotateLeft (.zpx z) s

/-- 0x3E `ROL w,X` (R237, R147): 7 cycles. -/
def execRolAbsx (w : Word) (s : State) : Result := rmwInstr 7 rotateLeft (.absx w) s

/-- 0x66 `ROR z` (R238, R143): 5 cycles. -/
def execRorZp (z : Byte) (s : State) : Result := rmwInstr 5 rotateRight (.zp z) s

/-- 0x6A `ROR A` (R238, R141): 2 cycles. -/
def execRorAcc (s : State) : Result := accInstr 2 rotateRight s

/-- 0x6E `ROR w` (R238, R146): 6 cycles. -/
def execRorAbs (w : Word) (s : State) : Result := rmwInstr 6 rotateRight (.abs w) s

/-- 0x76 `ROR z,X` (R238, R144): 6 cycles. -/
def execRorZpx (z : Byte) (s : State) : Result := rmwInstr 6 rotateRight (.zpx z) s

/-- 0x7E `ROR w,X` (R238, R147): 7 cycles. -/
def execRorAbsx (w : Word) (s : State) : Result := rmwInstr 7 rotateRight (.absx w) s

end Sys2Proof.Machine
end

