-- ==== Sys2Proof/Machine/Stack.lean ====
section
/-! DEFINITION. Stack instructions (`41_stack.md` R190 to R194). -/

namespace Sys2Proof.Machine

/-- 0x48 `PHA` (R191, R140): 3 cycles. -/
def execPha (s : State) : Result := .next (charge 3 (push8 s.cpu.a s))

/-- 0x08 `PHP` (R192, R140): 3 cycles. -/
def execPhp (s : State) : Result := .next (charge 3 (push8 (packP Config.phpPushB s.cpu) s))

/-- 0x68 `PLA` (R193, R140): 4 cycles. -/
def execPla (s : State) : Result :=
  let r := pull8 s
  .next (charge 4 (r.2.setCpu (loadA r.1 r.2.cpu)))

/-- 0x28 `PLP` (R194, R140): 4 cycles. -/
def execPlp (s : State) : Result :=
  let r := pull8 s
  .next (charge 4 (r.2.setCpu (unpackP r.1 r.2.cpu)))

end Sys2Proof.Machine
end

