-- ==== Sys2Proof/Machine/System.lean ====
section
/-! DEFINITION. Flag, no-operation and system instructions (`45_flag_system.md` R270 to R282). -/

namespace Sys2Proof.Machine

/-- 0x18 `CLC` (R271, R140): 2 cycles. -/
def execClc (s : State) : Result := impliedInstr 2 (fun c => { c with c := false }) s

/-- 0x38 `SEC` (R272, R140): 2 cycles. -/
def execSec (s : State) : Result := impliedInstr 2 (fun c => { c with c := true }) s

/-- 0x58 `CLI` (R273, R140): 2 cycles. -/
def execCli (s : State) : Result := impliedInstr 2 (fun c => { c with i := false }) s

/-- 0x78 `SEI` (R274, R140): 2 cycles. -/
def execSei (s : State) : Result := impliedInstr 2 (fun c => { c with i := true }) s

/-- 0xD8 `CLD` (R275, R140): 2 cycles. -/
def execCld (s : State) : Result := impliedInstr 2 (fun c => { c with d := false }) s

/-- 0xF8 `SED` (R276, R140): 2 cycles. -/
def execSed (s : State) : Result := impliedInstr 2 (fun c => { c with d := true }) s

/-- 0xB8 `CLV` (R277, R140): 2 cycles. -/
def execClv (s : State) : Result := impliedInstr 2 (fun c => { c with v := false }) s

/-- 0xEA `NOP` (R278, R140): 2 cycles. -/
def execNop (s : State) : Result := impliedInstr 2 (fun c => c) s

/-- 0x00 `BRK` (R281, R140): 7 cycles. -/
def execBrk (s : State) : Result := .next (charge 7 (enterTrap .brk (setPc (s.cpu.pc + 1) s)))

/-- 0x40 `RTI` (R282, R140): 6 cycles. -/
def execRti (s : State) : Result := .next (charge 6 (returnTrap s))

end Sys2Proof.Machine
end

