-- ==== Sys2Proof/Machine/Undoc.lean ====
section
/-! DEFINITION. The 105 undocumented opcode bytes (`46_undocumented.md` R290): no trap and no halt; the effect is the
parameter `UNDOC_EXEC`, left open (log entry 2). -/

namespace Sys2Proof.Machine

/-- The memory as the CPU reads it, without side effects: the argument of `UNDOC_EXEC` (R290). -/
def busView (s : State) : Word → Byte := fun a => (routeRead a s).1

/-- The effect `UNDOC_EXEC` gives for opcode byte `op` in state `s` (R290). -/
def undocEffect (op : Byte) (s : State) : Config.UndocEffect := Config.undocExec op s.cpu (busView s)

/-- The register file after an undocumented opcode: the opcode byte is already consumed, `PC` moves on by `pcExtra`. -/
def undocCpu (e : Config.UndocEffect) (pc : Word) : Cpu where
  a := e.a
  x := e.x
  y := e.y
  sp := e.sp
  pc := pc + BitVec.ofNat 16 e.pcExtra
  c := e.c
  z := e.z
  i := e.i
  d := e.d
  b := e.b
  v := e.v
  n := e.n

/-- The byte writes of `UNDOC_EXEC`, in order, each through the router. -/
def undocWrites (l : List (Word × Byte)) (s : State) : State := l.foldl (fun t w => memWrite w.1 w.2 t) s

/-- An undocumented opcode (R290): the writes and the register file `UNDOC_EXEC` gives; at least one cycle. -/
def undocStep (op : Byte) (s : State) : Result :=
  let e := undocEffect op s
  .next (charge (1 + e.cyclesExtra) ((undocWrites e.writes s).setCpu (undocCpu e s.cpu.pc)))

/-- 0x02, undocumented (R290). -/
def execUndoc02 (s : State) : Result := undocStep 0x02 s

/-- 0x03, undocumented (R290). -/
def execUndoc03 (s : State) : Result := undocStep 0x03 s

/-- 0x04, undocumented (R290). -/
def execUndoc04 (s : State) : Result := undocStep 0x04 s

/-- 0x07, undocumented (R290). -/
def execUndoc07 (s : State) : Result := undocStep 0x07 s

/-- 0x0B, undocumented (R290). -/
def execUndoc0B (s : State) : Result := undocStep 0x0B s

/-- 0x0C, undocumented (R290). -/
def execUndoc0C (s : State) : Result := undocStep 0x0C s

/-- 0x0F, undocumented (R290). -/
def execUndoc0F (s : State) : Result := undocStep 0x0F s

/-- 0x12, undocumented (R290). -/
def execUndoc12 (s : State) : Result := undocStep 0x12 s

/-- 0x13, undocumented (R290). -/
def execUndoc13 (s : State) : Result := undocStep 0x13 s

/-- 0x14, undocumented (R290). -/
def execUndoc14 (s : State) : Result := undocStep 0x14 s

/-- 0x17, undocumented (R290). -/
def execUndoc17 (s : State) : Result := undocStep 0x17 s

/-- 0x1A, undocumented (R290). -/
def execUndoc1A (s : State) : Result := undocStep 0x1A s

/-- 0x1B, undocumented (R290). -/
def execUndoc1B (s : State) : Result := undocStep 0x1B s

/-- 0x1C, undocumented (R290). -/
def execUndoc1C (s : State) : Result := undocStep 0x1C s

/-- 0x1F, undocumented (R290). -/
def execUndoc1F (s : State) : Result := undocStep 0x1F s

/-- 0x22, undocumented (R290). -/
def execUndoc22 (s : State) : Result := undocStep 0x22 s

/-- 0x23, undocumented (R290). -/
def execUndoc23 (s : State) : Result := undocStep 0x23 s

/-- 0x27, undocumented (R290). -/
def execUndoc27 (s : State) : Result := undocStep 0x27 s

/-- 0x2B, undocumented (R290). -/
def execUndoc2B (s : State) : Result := undocStep 0x2B s

/-- 0x2F, undocumented (R290). -/
def execUndoc2F (s : State) : Result := undocStep 0x2F s

/-- 0x32, undocumented (R290). -/
def execUndoc32 (s : State) : Result := undocStep 0x32 s

/-- 0x33, undocumented (R290). -/
def execUndoc33 (s : State) : Result := undocStep 0x33 s

/-- 0x34, undocumented (R290). -/
def execUndoc34 (s : State) : Result := undocStep 0x34 s

/-- 0x37, undocumented (R290). -/
def execUndoc37 (s : State) : Result := undocStep 0x37 s

/-- 0x3A, undocumented (R290). -/
def execUndoc3A (s : State) : Result := undocStep 0x3A s

/-- 0x3B, undocumented (R290). -/
def execUndoc3B (s : State) : Result := undocStep 0x3B s

/-- 0x3C, undocumented (R290). -/
def execUndoc3C (s : State) : Result := undocStep 0x3C s

/-- 0x3F, undocumented (R290). -/
def execUndoc3F (s : State) : Result := undocStep 0x3F s

/-- 0x42, undocumented (R290). -/
def execUndoc42 (s : State) : Result := undocStep 0x42 s

/-- 0x43, undocumented (R290). -/
def execUndoc43 (s : State) : Result := undocStep 0x43 s

/-- 0x44, undocumented (R290). -/
def execUndoc44 (s : State) : Result := undocStep 0x44 s

/-- 0x47, undocumented (R290). -/
def execUndoc47 (s : State) : Result := undocStep 0x47 s

/-- 0x4B, undocumented (R290). -/
def execUndoc4B (s : State) : Result := undocStep 0x4B s

/-- 0x4F, undocumented (R290). -/
def execUndoc4F (s : State) : Result := undocStep 0x4F s

/-- 0x52, undocumented (R290). -/
def execUndoc52 (s : State) : Result := undocStep 0x52 s

/-- 0x53, undocumented (R290). -/
def execUndoc53 (s : State) : Result := undocStep 0x53 s

/-- 0x54, undocumented (R290). -/
def execUndoc54 (s : State) : Result := undocStep 0x54 s

/-- 0x57, undocumented (R290). -/
def execUndoc57 (s : State) : Result := undocStep 0x57 s

/-- 0x5A, undocumented (R290). -/
def execUndoc5A (s : State) : Result := undocStep 0x5A s

/-- 0x5B, undocumented (R290). -/
def execUndoc5B (s : State) : Result := undocStep 0x5B s

/-- 0x5C, undocumented (R290). -/
def execUndoc5C (s : State) : Result := undocStep 0x5C s

/-- 0x5F, undocumented (R290). -/
def execUndoc5F (s : State) : Result := undocStep 0x5F s

/-- 0x62, undocumented (R290). -/
def execUndoc62 (s : State) : Result := undocStep 0x62 s

/-- 0x63, undocumented (R290). -/
def execUndoc63 (s : State) : Result := undocStep 0x63 s

/-- 0x64, undocumented (R290). -/
def execUndoc64 (s : State) : Result := undocStep 0x64 s

/-- 0x67, undocumented (R290). -/
def execUndoc67 (s : State) : Result := undocStep 0x67 s

/-- 0x6B, undocumented (R290). -/
def execUndoc6B (s : State) : Result := undocStep 0x6B s

/-- 0x6F, undocumented (R290). -/
def execUndoc6F (s : State) : Result := undocStep 0x6F s

/-- 0x72, undocumented (R290). -/
def execUndoc72 (s : State) : Result := undocStep 0x72 s

/-- 0x73, undocumented (R290). -/
def execUndoc73 (s : State) : Result := undocStep 0x73 s

/-- 0x74, undocumented (R290). -/
def execUndoc74 (s : State) : Result := undocStep 0x74 s

/-- 0x77, undocumented (R290). -/
def execUndoc77 (s : State) : Result := undocStep 0x77 s

/-- 0x7A, undocumented (R290). -/
def execUndoc7A (s : State) : Result := undocStep 0x7A s

/-- 0x7B, undocumented (R290). -/
def execUndoc7B (s : State) : Result := undocStep 0x7B s

/-- 0x7C, undocumented (R290). -/
def execUndoc7C (s : State) : Result := undocStep 0x7C s

/-- 0x7F, undocumented (R290). -/
def execUndoc7F (s : State) : Result := undocStep 0x7F s

/-- 0x80, undocumented (R290). -/
def execUndoc80 (s : State) : Result := undocStep 0x80 s

/-- 0x82, undocumented (R290). -/
def execUndoc82 (s : State) : Result := undocStep 0x82 s

/-- 0x83, undocumented (R290). -/
def execUndoc83 (s : State) : Result := undocStep 0x83 s

/-- 0x87, undocumented (R290). -/
def execUndoc87 (s : State) : Result := undocStep 0x87 s

/-- 0x89, undocumented (R290). -/
def execUndoc89 (s : State) : Result := undocStep 0x89 s

/-- 0x8B, undocumented (R290). -/
def execUndoc8B (s : State) : Result := undocStep 0x8B s

/-- 0x8F, undocumented (R290). -/
def execUndoc8F (s : State) : Result := undocStep 0x8F s

/-- 0x92, undocumented (R290). -/
def execUndoc92 (s : State) : Result := undocStep 0x92 s

/-- 0x93, undocumented (R290). -/
def execUndoc93 (s : State) : Result := undocStep 0x93 s

/-- 0x97, undocumented (R290). -/
def execUndoc97 (s : State) : Result := undocStep 0x97 s

/-- 0x9B, undocumented (R290). -/
def execUndoc9B (s : State) : Result := undocStep 0x9B s

/-- 0x9C, undocumented (R290). -/
def execUndoc9C (s : State) : Result := undocStep 0x9C s

/-- 0x9E, undocumented (R290). -/
def execUndoc9E (s : State) : Result := undocStep 0x9E s

/-- 0x9F, undocumented (R290). -/
def execUndoc9F (s : State) : Result := undocStep 0x9F s

/-- 0xA3, undocumented (R290). -/
def execUndocA3 (s : State) : Result := undocStep 0xA3 s

/-- 0xA7, undocumented (R290). -/
def execUndocA7 (s : State) : Result := undocStep 0xA7 s

/-- 0xAB, undocumented (R290). -/
def execUndocAB (s : State) : Result := undocStep 0xAB s

/-- 0xAF, undocumented (R290). -/
def execUndocAF (s : State) : Result := undocStep 0xAF s

/-- 0xB2, undocumented (R290). -/
def execUndocB2 (s : State) : Result := undocStep 0xB2 s

/-- 0xB3, undocumented (R290). -/
def execUndocB3 (s : State) : Result := undocStep 0xB3 s

/-- 0xB7, undocumented (R290). -/
def execUndocB7 (s : State) : Result := undocStep 0xB7 s

/-- 0xBB, undocumented (R290). -/
def execUndocBB (s : State) : Result := undocStep 0xBB s

/-- 0xBF, undocumented (R290). -/
def execUndocBF (s : State) : Result := undocStep 0xBF s

/-- 0xC2, undocumented (R290). -/
def execUndocC2 (s : State) : Result := undocStep 0xC2 s

/-- 0xC3, undocumented (R290). -/
def execUndocC3 (s : State) : Result := undocStep 0xC3 s

/-- 0xC7, undocumented (R290). -/
def execUndocC7 (s : State) : Result := undocStep 0xC7 s

/-- 0xCB, undocumented (R290). -/
def execUndocCB (s : State) : Result := undocStep 0xCB s

/-- 0xCF, undocumented (R290). -/
def execUndocCF (s : State) : Result := undocStep 0xCF s

/-- 0xD2, undocumented (R290). -/
def execUndocD2 (s : State) : Result := undocStep 0xD2 s

/-- 0xD3, undocumented (R290). -/
def execUndocD3 (s : State) : Result := undocStep 0xD3 s

/-- 0xD4, undocumented (R290). -/
def execUndocD4 (s : State) : Result := undocStep 0xD4 s

/-- 0xD7, undocumented (R290). -/
def execUndocD7 (s : State) : Result := undocStep 0xD7 s

/-- 0xDA, undocumented (R290). -/
def execUndocDA (s : State) : Result := undocStep 0xDA s

/-- 0xDB, undocumented (R290). -/
def execUndocDB (s : State) : Result := undocStep 0xDB s

/-- 0xDC, undocumented (R290). -/
def execUndocDC (s : State) : Result := undocStep 0xDC s

/-- 0xDF, undocumented (R290). -/
def execUndocDF (s : State) : Result := undocStep 0xDF s

/-- 0xE2, undocumented (R290). -/
def execUndocE2 (s : State) : Result := undocStep 0xE2 s

/-- 0xE3, undocumented (R290). -/
def execUndocE3 (s : State) : Result := undocStep 0xE3 s

/-- 0xE7, undocumented (R290). -/
def execUndocE7 (s : State) : Result := undocStep 0xE7 s

/-- 0xEB, undocumented (R290). -/
def execUndocEB (s : State) : Result := undocStep 0xEB s

/-- 0xEF, undocumented (R290). -/
def execUndocEF (s : State) : Result := undocStep 0xEF s

/-- 0xF2, undocumented (R290). -/
def execUndocF2 (s : State) : Result := undocStep 0xF2 s

/-- 0xF3, undocumented (R290). -/
def execUndocF3 (s : State) : Result := undocStep 0xF3 s

/-- 0xF4, undocumented (R290). -/
def execUndocF4 (s : State) : Result := undocStep 0xF4 s

/-- 0xF7, undocumented (R290). -/
def execUndocF7 (s : State) : Result := undocStep 0xF7 s

/-- 0xFA, undocumented (R290). -/
def execUndocFA (s : State) : Result := undocStep 0xFA s

/-- 0xFB, undocumented (R290). -/
def execUndocFB (s : State) : Result := undocStep 0xFB s

/-- 0xFC, undocumented (R290). -/
def execUndocFC (s : State) : Result := undocStep 0xFC s

/-- 0xFF, undocumented (R290). -/
def execUndocFF (s : State) : Result := undocStep 0xFF s

end Sys2Proof.Machine
end

