-- ==== Sys2Proof/Machine/Dispatch.lean ====
section
/-! DEFINITION. One arm per instruction: the call of its meaning. -/

namespace Sys2Proof.Machine

def exec (i : Instr) (s : State) : Host.Outcome State Fault Refusal :=
  match i with
  | .oraIndx z => Sys2Proof.Machine.execOraIndx z s
  | .oraZp z => Sys2Proof.Machine.execOraZp z s
  | .aslZp z => Sys2Proof.Machine.execAslZp z s
  | .oraImm m => Sys2Proof.Machine.execOraImm m s
  | .oraAbs w => Sys2Proof.Machine.execOraAbs w s
  | .aslAbs w => Sys2Proof.Machine.execAslAbs w s
  | .bpl d => Sys2Proof.Machine.execBpl d s
  | .oraIndy z => Sys2Proof.Machine.execOraIndy z s
  | .oraZpx z => Sys2Proof.Machine.execOraZpx z s
  | .aslZpx z => Sys2Proof.Machine.execAslZpx z s
  | .oraAbsy w => Sys2Proof.Machine.execOraAbsy w s
  | .oraAbsx w => Sys2Proof.Machine.execOraAbsx w s
  | .aslAbsx w => Sys2Proof.Machine.execAslAbsx w s
  | .jsr w => Sys2Proof.Machine.execJsr w s
  | .andIndx z => Sys2Proof.Machine.execAndIndx z s
  | .bitZp z => Sys2Proof.Machine.execBitZp z s
  | .andZp z => Sys2Proof.Machine.execAndZp z s
  | .rolZp z => Sys2Proof.Machine.execRolZp z s
  | .andImm m => Sys2Proof.Machine.execAndImm m s
  | .bitAbs w => Sys2Proof.Machine.execBitAbs w s
  | .andAbs w => Sys2Proof.Machine.execAndAbs w s
  | .rolAbs w => Sys2Proof.Machine.execRolAbs w s
  | .bmi d => Sys2Proof.Machine.execBmi d s
  | .andIndy z => Sys2Proof.Machine.execAndIndy z s
  | .andZpx z => Sys2Proof.Machine.execAndZpx z s
  | .rolZpx z => Sys2Proof.Machine.execRolZpx z s
  | .andAbsy w => Sys2Proof.Machine.execAndAbsy w s
  | .andAbsx w => Sys2Proof.Machine.execAndAbsx w s
  | .rolAbsx w => Sys2Proof.Machine.execRolAbsx w s
  | .eorIndx z => Sys2Proof.Machine.execEorIndx z s
  | .eorZp z => Sys2Proof.Machine.execEorZp z s
  | .lsrZp z => Sys2Proof.Machine.execLsrZp z s
  | .eorImm m => Sys2Proof.Machine.execEorImm m s
  | .jmpAbs w => Sys2Proof.Machine.execJmpAbs w s
  | .eorAbs w => Sys2Proof.Machine.execEorAbs w s
  | .lsrAbs w => Sys2Proof.Machine.execLsrAbs w s
  | .bvc d => Sys2Proof.Machine.execBvc d s
  | .eorIndy z => Sys2Proof.Machine.execEorIndy z s
  | .eorZpx z => Sys2Proof.Machine.execEorZpx z s
  | .lsrZpx z => Sys2Proof.Machine.execLsrZpx z s
  | .eorAbsy w => Sys2Proof.Machine.execEorAbsy w s
  | .eorAbsx w => Sys2Proof.Machine.execEorAbsx w s
  | .lsrAbsx w => Sys2Proof.Machine.execLsrAbsx w s
  | .adcIndx z => Sys2Proof.Machine.execAdcIndx z s
  | .adcZp z => Sys2Proof.Machine.execAdcZp z s
  | .rorZp z => Sys2Proof.Machine.execRorZp z s
  | .adcImm m => Sys2Proof.Machine.execAdcImm m s
  | .jmpInd w => Sys2Proof.Machine.execJmpInd w s
  | .adcAbs w => Sys2Proof.Machine.execAdcAbs w s
  | .rorAbs w => Sys2Proof.Machine.execRorAbs w s
  | .bvs d => Sys2Proof.Machine.execBvs d s
  | .adcIndy z => Sys2Proof.Machine.execAdcIndy z s
  | .adcZpx z => Sys2Proof.Machine.execAdcZpx z s
  | .rorZpx z => Sys2Proof.Machine.execRorZpx z s
  | .adcAbsy w => Sys2Proof.Machine.execAdcAbsy w s
  | .adcAbsx w => Sys2Proof.Machine.execAdcAbsx w s
  | .rorAbsx w => Sys2Proof.Machine.execRorAbsx w s
  | .staIndx z => Sys2Proof.Machine.execStaIndx z s
  | .styZp z => Sys2Proof.Machine.execStyZp z s
  | .staZp z => Sys2Proof.Machine.execStaZp z s
  | .stxZp z => Sys2Proof.Machine.execStxZp z s
  | .styAbs w => Sys2Proof.Machine.execStyAbs w s
  | .staAbs w => Sys2Proof.Machine.execStaAbs w s
  | .stxAbs w => Sys2Proof.Machine.execStxAbs w s
  | .bcc d => Sys2Proof.Machine.execBcc d s
  | .staIndy z => Sys2Proof.Machine.execStaIndy z s
  | .styZpx z => Sys2Proof.Machine.execStyZpx z s
  | .staZpx z => Sys2Proof.Machine.execStaZpx z s
  | .stxZpy z => Sys2Proof.Machine.execStxZpy z s
  | .staAbsy w => Sys2Proof.Machine.execStaAbsy w s
  | .staAbsx w => Sys2Proof.Machine.execStaAbsx w s
  | .ldyImm m => Sys2Proof.Machine.execLdyImm m s
  | .ldaIndx z => Sys2Proof.Machine.execLdaIndx z s
  | .ldxImm m => Sys2Proof.Machine.execLdxImm m s
  | .ldyZp z => Sys2Proof.Machine.execLdyZp z s
  | .ldaZp z => Sys2Proof.Machine.execLdaZp z s
  | .ldxZp z => Sys2Proof.Machine.execLdxZp z s
  | .ldaImm m => Sys2Proof.Machine.execLdaImm m s
  | .ldyAbs w => Sys2Proof.Machine.execLdyAbs w s
  | .ldaAbs w => Sys2Proof.Machine.execLdaAbs w s
  | .ldxAbs w => Sys2Proof.Machine.execLdxAbs w s
  | .bcs d => Sys2Proof.Machine.execBcs d s
  | .ldaIndy z => Sys2Proof.Machine.execLdaIndy z s
  | .ldyZpx z => Sys2Proof.Machine.execLdyZpx z s
  | .ldaZpx z => Sys2Proof.Machine.execLdaZpx z s
  | .ldxZpy z => Sys2Proof.Machine.execLdxZpy z s
  | .ldaAbsy w => Sys2Proof.Machine.execLdaAbsy w s
  | .ldyAbsx w => Sys2Proof.Machine.execLdyAbsx w s
  | .ldaAbsx w => Sys2Proof.Machine.execLdaAbsx w s
  | .ldxAbsy w => Sys2Proof.Machine.execLdxAbsy w s
  | .cpyImm m => Sys2Proof.Machine.execCpyImm m s
  | .cmpIndx z => Sys2Proof.Machine.execCmpIndx z s
  | .cpyZp z => Sys2Proof.Machine.execCpyZp z s
  | .cmpZp z => Sys2Proof.Machine.execCmpZp z s
  | .decZp z => Sys2Proof.Machine.execDecZp z s
  | .cmpImm m => Sys2Proof.Machine.execCmpImm m s
  | .cpyAbs w => Sys2Proof.Machine.execCpyAbs w s
  | .cmpAbs w => Sys2Proof.Machine.execCmpAbs w s
  | .decAbs w => Sys2Proof.Machine.execDecAbs w s
  | .bne d => Sys2Proof.Machine.execBne d s
  | .cmpIndy z => Sys2Proof.Machine.execCmpIndy z s
  | .cmpZpx z => Sys2Proof.Machine.execCmpZpx z s
  | .decZpx z => Sys2Proof.Machine.execDecZpx z s
  | .cmpAbsy w => Sys2Proof.Machine.execCmpAbsy w s
  | .cmpAbsx w => Sys2Proof.Machine.execCmpAbsx w s
  | .decAbsx w => Sys2Proof.Machine.execDecAbsx w s
  | .cpxImm m => Sys2Proof.Machine.execCpxImm m s
  | .sbcIndx z => Sys2Proof.Machine.execSbcIndx z s
  | .cpxZp z => Sys2Proof.Machine.execCpxZp z s
  | .sbcZp z => Sys2Proof.Machine.execSbcZp z s
  | .incZp z => Sys2Proof.Machine.execIncZp z s
  | .sbcImm m => Sys2Proof.Machine.execSbcImm m s
  | .cpxAbs w => Sys2Proof.Machine.execCpxAbs w s
  | .sbcAbs w => Sys2Proof.Machine.execSbcAbs w s
  | .incAbs w => Sys2Proof.Machine.execIncAbs w s
  | .beq d => Sys2Proof.Machine.execBeq d s
  | .sbcIndy z => Sys2Proof.Machine.execSbcIndy z s
  | .sbcZpx z => Sys2Proof.Machine.execSbcZpx z s
  | .incZpx z => Sys2Proof.Machine.execIncZpx z s
  | .sbcAbsy w => Sys2Proof.Machine.execSbcAbsy w s
  | .sbcAbsx w => Sys2Proof.Machine.execSbcAbsx w s
  | .incAbsx w => Sys2Proof.Machine.execIncAbsx w s
  | .dlBlank dli count => Sys2Proof.Machine.execDlBlank dli count s
  | .dlJmp dli vs hs addr => Sys2Proof.Machine.execDlJmp dli vs hs addr s
  | .dlJvb dli vs hs addr => Sys2Proof.Machine.execDlJvb dli vs hs addr s
  | .dlMode dli vs hs m => Sys2Proof.Machine.execDlMode dli vs hs m s
  | .dlModeLms dli vs hs m addr => Sys2Proof.Machine.execDlModeLms dli vs hs m addr s
  | .brk => Sys2Proof.Machine.execBrk s
  | .undoc02 => Sys2Proof.Machine.execUndoc02 s
  | .undoc03 => Sys2Proof.Machine.execUndoc03 s
  | .undoc04 => Sys2Proof.Machine.execUndoc04 s
  | .undoc07 => Sys2Proof.Machine.execUndoc07 s
  | .php => Sys2Proof.Machine.execPhp s
  | .aslAcc => Sys2Proof.Machine.execAslAcc s
  | .undoc0B => Sys2Proof.Machine.execUndoc0B s
  | .undoc0C => Sys2Proof.Machine.execUndoc0C s
  | .undoc0F => Sys2Proof.Machine.execUndoc0F s
  | .undoc12 => Sys2Proof.Machine.execUndoc12 s
  | .undoc13 => Sys2Proof.Machine.execUndoc13 s
  | .undoc14 => Sys2Proof.Machine.execUndoc14 s
  | .undoc17 => Sys2Proof.Machine.execUndoc17 s
  | .clc => Sys2Proof.Machine.execClc s
  | .undoc1A => Sys2Proof.Machine.execUndoc1A s
  | .undoc1B => Sys2Proof.Machine.execUndoc1B s
  | .undoc1C => Sys2Proof.Machine.execUndoc1C s
  | .undoc1F => Sys2Proof.Machine.execUndoc1F s
  | .undoc22 => Sys2Proof.Machine.execUndoc22 s
  | .undoc23 => Sys2Proof.Machine.execUndoc23 s
  | .undoc27 => Sys2Proof.Machine.execUndoc27 s
  | .plp => Sys2Proof.Machine.execPlp s
  | .rolAcc => Sys2Proof.Machine.execRolAcc s
  | .undoc2B => Sys2Proof.Machine.execUndoc2B s
  | .undoc2F => Sys2Proof.Machine.execUndoc2F s
  | .undoc32 => Sys2Proof.Machine.execUndoc32 s
  | .undoc33 => Sys2Proof.Machine.execUndoc33 s
  | .undoc34 => Sys2Proof.Machine.execUndoc34 s
  | .undoc37 => Sys2Proof.Machine.execUndoc37 s
  | .sec => Sys2Proof.Machine.execSec s
  | .undoc3A => Sys2Proof.Machine.execUndoc3A s
  | .undoc3B => Sys2Proof.Machine.execUndoc3B s
  | .undoc3C => Sys2Proof.Machine.execUndoc3C s
  | .undoc3F => Sys2Proof.Machine.execUndoc3F s
  | .rti => Sys2Proof.Machine.execRti s
  | .undoc42 => Sys2Proof.Machine.execUndoc42 s
  | .undoc43 => Sys2Proof.Machine.execUndoc43 s
  | .undoc44 => Sys2Proof.Machine.execUndoc44 s
  | .undoc47 => Sys2Proof.Machine.execUndoc47 s
  | .pha => Sys2Proof.Machine.execPha s
  | .lsrAcc => Sys2Proof.Machine.execLsrAcc s
  | .undoc4B => Sys2Proof.Machine.execUndoc4B s
  | .undoc4F => Sys2Proof.Machine.execUndoc4F s
  | .undoc52 => Sys2Proof.Machine.execUndoc52 s
  | .undoc53 => Sys2Proof.Machine.execUndoc53 s
  | .undoc54 => Sys2Proof.Machine.execUndoc54 s
  | .undoc57 => Sys2Proof.Machine.execUndoc57 s
  | .cli => Sys2Proof.Machine.execCli s
  | .undoc5A => Sys2Proof.Machine.execUndoc5A s
  | .undoc5B => Sys2Proof.Machine.execUndoc5B s
  | .undoc5C => Sys2Proof.Machine.execUndoc5C s
  | .undoc5F => Sys2Proof.Machine.execUndoc5F s
  | .rts => Sys2Proof.Machine.execRts s
  | .undoc62 => Sys2Proof.Machine.execUndoc62 s
  | .undoc63 => Sys2Proof.Machine.execUndoc63 s
  | .undoc64 => Sys2Proof.Machine.execUndoc64 s
  | .undoc67 => Sys2Proof.Machine.execUndoc67 s
  | .pla => Sys2Proof.Machine.execPla s
  | .rorAcc => Sys2Proof.Machine.execRorAcc s
  | .undoc6B => Sys2Proof.Machine.execUndoc6B s
  | .undoc6F => Sys2Proof.Machine.execUndoc6F s
  | .undoc72 => Sys2Proof.Machine.execUndoc72 s
  | .undoc73 => Sys2Proof.Machine.execUndoc73 s
  | .undoc74 => Sys2Proof.Machine.execUndoc74 s
  | .undoc77 => Sys2Proof.Machine.execUndoc77 s
  | .sei => Sys2Proof.Machine.execSei s
  | .undoc7A => Sys2Proof.Machine.execUndoc7A s
  | .undoc7B => Sys2Proof.Machine.execUndoc7B s
  | .undoc7C => Sys2Proof.Machine.execUndoc7C s
  | .undoc7F => Sys2Proof.Machine.execUndoc7F s
  | .undoc80 => Sys2Proof.Machine.execUndoc80 s
  | .undoc82 => Sys2Proof.Machine.execUndoc82 s
  | .undoc83 => Sys2Proof.Machine.execUndoc83 s
  | .undoc87 => Sys2Proof.Machine.execUndoc87 s
  | .dey => Sys2Proof.Machine.execDey s
  | .undoc89 => Sys2Proof.Machine.execUndoc89 s
  | .txa => Sys2Proof.Machine.execTxa s
  | .undoc8B => Sys2Proof.Machine.execUndoc8B s
  | .undoc8F => Sys2Proof.Machine.execUndoc8F s
  | .undoc92 => Sys2Proof.Machine.execUndoc92 s
  | .undoc93 => Sys2Proof.Machine.execUndoc93 s
  | .undoc97 => Sys2Proof.Machine.execUndoc97 s
  | .tya => Sys2Proof.Machine.execTya s
  | .txs => Sys2Proof.Machine.execTxs s
  | .undoc9B => Sys2Proof.Machine.execUndoc9B s
  | .undoc9C => Sys2Proof.Machine.execUndoc9C s
  | .undoc9E => Sys2Proof.Machine.execUndoc9E s
  | .undoc9F => Sys2Proof.Machine.execUndoc9F s
  | .undocA3 => Sys2Proof.Machine.execUndocA3 s
  | .undocA7 => Sys2Proof.Machine.execUndocA7 s
  | .tay => Sys2Proof.Machine.execTay s
  | .tax => Sys2Proof.Machine.execTax s
  | .undocAB => Sys2Proof.Machine.execUndocAB s
  | .undocAF => Sys2Proof.Machine.execUndocAF s
  | .undocB2 => Sys2Proof.Machine.execUndocB2 s
  | .undocB3 => Sys2Proof.Machine.execUndocB3 s
  | .undocB7 => Sys2Proof.Machine.execUndocB7 s
  | .clv => Sys2Proof.Machine.execClv s
  | .tsx => Sys2Proof.Machine.execTsx s
  | .undocBB => Sys2Proof.Machine.execUndocBB s
  | .undocBF => Sys2Proof.Machine.execUndocBF s
  | .undocC2 => Sys2Proof.Machine.execUndocC2 s
  | .undocC3 => Sys2Proof.Machine.execUndocC3 s
  | .undocC7 => Sys2Proof.Machine.execUndocC7 s
  | .iny => Sys2Proof.Machine.execIny s
  | .dex => Sys2Proof.Machine.execDex s
  | .undocCB => Sys2Proof.Machine.execUndocCB s
  | .undocCF => Sys2Proof.Machine.execUndocCF s
  | .undocD2 => Sys2Proof.Machine.execUndocD2 s
  | .undocD3 => Sys2Proof.Machine.execUndocD3 s
  | .undocD4 => Sys2Proof.Machine.execUndocD4 s
  | .undocD7 => Sys2Proof.Machine.execUndocD7 s
  | .cld => Sys2Proof.Machine.execCld s
  | .undocDA => Sys2Proof.Machine.execUndocDA s
  | .undocDB => Sys2Proof.Machine.execUndocDB s
  | .undocDC => Sys2Proof.Machine.execUndocDC s
  | .undocDF => Sys2Proof.Machine.execUndocDF s
  | .undocE2 => Sys2Proof.Machine.execUndocE2 s
  | .undocE3 => Sys2Proof.Machine.execUndocE3 s
  | .undocE7 => Sys2Proof.Machine.execUndocE7 s
  | .inx => Sys2Proof.Machine.execInx s
  | .nop => Sys2Proof.Machine.execNop s
  | .undocEB => Sys2Proof.Machine.execUndocEB s
  | .undocEF => Sys2Proof.Machine.execUndocEF s
  | .undocF2 => Sys2Proof.Machine.execUndocF2 s
  | .undocF3 => Sys2Proof.Machine.execUndocF3 s
  | .undocF4 => Sys2Proof.Machine.execUndocF4 s
  | .undocF7 => Sys2Proof.Machine.execUndocF7 s
  | .sed => Sys2Proof.Machine.execSed s
  | .undocFA => Sys2Proof.Machine.execUndocFA s
  | .undocFB => Sys2Proof.Machine.execUndocFB s
  | .undocFC => Sys2Proof.Machine.execUndocFC s
  | .undocFF => Sys2Proof.Machine.execUndocFF s

end Sys2Proof.Machine
end

