-- ==== Sys2Proof/Machine/Video.lean ====
section
/-! DEFINITION. The video coprocessor's scanline step: fetching and executing a display-list instruction
(`47_display_list.md` R300, R304) and drawing one scanline (`61_video_coprocessor.md` R395 to R405). -/

namespace Sys2Proof.Machine

/-- Goes on with `f` from a next state; a refusal is handed through. -/
def onNext (r : Result) (f : State → Result) : Result :=
  match r with
  | .next s => f s
  | .fault e => .fault e
  | .refused e => .refused e

/-! ## The display list (R300 to R304) -/

/-- One byte of the display list: read through the router, the pointer advanced by one, its cost recorded (R300). -/
def dlFetch8 (s : State) : Byte × State :=
  let r := memRead s.antic.dlPc s
  (r.1, r.2.setAntic { r.2.antic with
    dlPc := r.2.antic.dlPc + 1, dmaCycles := r.2.antic.dmaCycles + Config.dlDmaCost })

/-- The operand of a three-byte display-list instruction, low byte first (R302). -/
def dlFetch16 (s : State) : Word × State :=
  let lo := dlFetch8 s
  let hi := dlFetch8 lo.2
  (wordOfBytes lo.1 hi.1, hi.2)

/-- Completes an instruction whose opcode byte has been read: its operand bytes are read with `byte` and `word`. -/
def readOperand (byte : State → Byte × State) (word : State → Word × State) (e : OpEntry) (s : State) : Instr × State :=
  match e with
  | .one i => (i, s)
  | .two f => (f (byte s).1, (byte s).2)
  | .three f => (f (word s).1, (word s).2)

/-- Fetches one display-list instruction (R302, R304). -/
def dlFetchInstr (s : State) : Instr × State :=
  let ir := dlFetch8 s
  readOperand dlFetch8 dlFetch16 (decodeDlOpcode ir.1) ir.2

/-- `processDisplayList()`: exactly one display-list instruction (R304). -/
def processDisplayList (s : State) : Result :=
  let f := dlFetchInstr s
  exec f.1 f.2

/-! ## Pixels (R396, R399 to R405) -/

/-- The five colours of a scanline, sampled once at its start (R396). -/
structure LineColours where
  bk : Byte
  pf0 : Byte
  pf1 : Byte
  pf2 : Byte
  pf3 : Byte
  deriving DecidableEq, Repr

/-- The sampled colours (R395, R396). -/
def sampleColours (g : Gtia) : LineColours := ⟨g.colbk, g.colpf.q0, g.colpf.q1, g.colpf.q2, g.colpf.q3⟩

/-- `hicol`: hue of playfield 2, luminance of playfield 1 (R399). -/
def LineColours.hicol (k : LineColours) : Byte := (k.pf2 &&& 0xF0) ||| (k.pf1 &&& 0x0F)

/-- The entry `v` of four colours. -/
def pickColour (c0 c1 c2 c3 : Byte) (v : BitVec 2) : Byte :=
  if v = 0 then c0 else if v = 1 then c1 else if v = 2 then c2 else c3

/-- The eight one-bit pixels of a byte, bit 7 first, each `w` pixels wide. -/
def bitPixels (w : Nat) (on off d : Byte) : List Byte :=
  [7, 6, 5, 4, 3, 2, 1, 0].flatMap fun b => List.replicate w (if d.getLsbD b then on else off)

/-- The four two-bit pixels of a byte, bits 7:6 first, each `w` pixels wide. -/
def pairPixels (w : Nat) (c0 c1 c2 c3 d : Byte) : List Byte :=
  [6, 4, 2, 0].flatMap fun b => List.replicate w (pickColour c0 c1 c2 c3 (d.extractLsb' b 2))

/-- `charRow` (R399). -/
def charRow (a : Antic) : Nat :=
  let r := a.rowInMode * 8 / a.modeHeight
  if a.chactl.getLsbD 2 then 7 - r else r

/-- `u16({base, 0x00} + code * 8 + row)`: the address of a glyph byte (R400, R402). -/
def glyphAddr (base code : Byte) (row : Nat) : Word := wordOfBytes 0 base + BitVec.ofNat 16 (code.toNat * 8 + row)

/-- The invert rule of two-colour text (R400, R375). -/
def invertGlyph (a : Antic) (code g : Byte) : Byte := if code.getLsbD 7 && a.chactl.getLsbD 1 then ~~~g else g

/-- The colours of one screen byte `code`, left to right, and the glyph read they take (R400 to R405). -/
def unitColours (r : Renderer) (a : Antic) (k : LineColours) (code : Byte) (s : State) : List Byte × State :=
  match r with
  | .t2 =>
    let g := memRead (glyphAddr (a.chbase &&& 0xFC) (code &&& 0x7F) (charRow a)) s
    (bitPixels 1 k.hicol k.pf2 (invertGlyph a code g.1), g.2)
  | .t4 =>
    let g := memRead (glyphAddr (a.chbase &&& 0xFC) (code &&& 0x7F) (charRow a)) s
    (pairPixels 2 k.bk k.pf0 k.pf1 (if code.getLsbD 7 then k.pf3 else k.pf2) g.1, g.2)
  | .t5 =>
    let g := memRead (glyphAddr (a.chbase &&& 0xFE) (code &&& 0x3F) (charRow a)) s
    (bitPixels 2 (pickColour k.pf0 k.pf1 k.pf2 k.pf3 (code.extractLsb' 6 2)) k.bk g.1, g.2)
  | .b2d => (pairPixels 4 k.bk k.pf0 k.pf1 k.pf2 code, s)
  | .b2s => (pairPixels 2 k.bk k.pf0 k.pf1 k.pf2 code, s)
  | .b1 => (bitPixels 1 k.hicol k.pf2 code, s)

/-- `n` screen units from unit `i` on: screen byte `i` is read, then its glyph byte, then the next unit (R399). -/
def unitsColours (r : Renderer) (a : Antic) (k : LineColours) : Nat → Nat → State → List Byte × State
  | 0, _, s => ([], s)
  | n + 1, i, s =>
    let code := memRead (a.memscan + BitVec.ofNat 16 i) s
    let u := unitColours r a k code.1 code.2
    let rest := unitsColours r a k n (i + 1) u.2
    (u.1 ++ rest.1, rest.2)

/-- The pixel offset `x0` of the content (R399). -/
def contentOffset (a : Antic) : Nat :=
  a.xOffset + (if a.curHscroll then 2 * (a.hscrol.extractLsb' 0 4).toNat else 0)

/-- A background row of `FB_WIDTH` pixels (R395). -/
def backgroundRow (bk : Byte) : List Pixel := List.replicate Config.fbWidth (Config.palette bk)

/-- `content` put over `row` from pixel `x0` on; pixels past the right edge are dropped (R399). -/
def overlay (row : List Pixel) (x0 : Nat) (content : List Byte) : List Pixel :=
  (row.take x0 ++ content.map Config.palette ++ row.drop (x0 + content.length)).take row.length

/-- Puts pixel row `y` into `FB`. -/
def putRow (y : Nat) (row : List Pixel) (s : State) : State := s.setAntic { s.antic with fb := setRow s.antic.fb y row }

/-- `drawModeLine(y)` (R399 to R405) over the background row; a mode number without a renderer draws nothing. -/
def drawModeLine (y : Nat) (k : LineColours) (s : State) : State :=
  match modeRow s.antic.curMode with
  | some r =>
    let u := unitsColours r.renderer s.antic k s.antic.renderUnits 0 s
    putRow y (overlay (backgroundRow k.bk) (contentOffset s.antic) u.1) u.2
  | none => s

/-! ## The scanline (R395 to R398) -/

/-- `CollisionPass()` (R398). -/
def collisionPass (s : State) : State :=
  (s.setGtia (collisionBits s.collisionPass s.gtia)).setCollisionPass (s.collisionPass + 1)

/-- The memory scan advance after a drawn scanline (R397). -/
def advanceMemscan (a : Antic) : Antic :=
  if !a.isChar || a.rowsLeft == 1 then { a with memscan := a.memscan + BitVec.ofNat 16 a.stride } else a

/-- The row counters of the current mode line move on by one scanline (R395). -/
def advanceRow (a : Antic) : Antic := { a with rowInMode := a.rowInMode + 1, rowsLeft := a.rowsLeft - 1 }

/-- One scanline of the current mode line, if it has one left (R395). -/
def drawLine (y : Nat) (k : LineColours) (s : State) : State :=
  if s.antic.rowsLeft = 0 then s
  else
    let s :=
      if 2 ≤ s.antic.curMode.toNat then
        let t := drawModeLine y k s
        t.setAntic (advanceMemscan t.antic)
      else s
    s.setAntic (advanceRow s.antic)

/-- The scanline `n` is in the visible window (R395). -/
def visibleScanline (n : Nat) : Bool :=
  decide (Config.visibleFirst ≤ n) && decide (n < Config.visibleFirst + Config.visibleLines)

/-- `drawScanline()` (R395): outside the visible window nothing at all; inside, the background row and the collision pass; and
with display-list DMA enabled, at most one instruction decode and one scanline of the mode line. -/
def drawScanline (s : State) : Result :=
  if !visibleScanline s.antic.scanline then .next s
  else
    let y := s.antic.scanline - Config.visibleFirst
    let k := sampleColours s.gtia
    let s := collisionPass (putRow y (backgroundRow k.bk) s)
    if s.antic.idle then .next s
    else
      onNext (if s.antic.rowsLeft = 0 && s.antic.dlActive then processDisplayList s else .next s)
        fun t => .next (drawLine y k t)

end Sys2Proof.Machine
end

