-- ==== Sys2Proof/Machine/Orchestrator.lean ====
section
/-! DEFINITION. The system orchestrator (`65_orchestrator.md` R510 to R515): fetching and running one CPU instruction, the
end-of-scanline step, the frame boundary, the start of the next scanline. -/

namespace Sys2Proof.Machine

/-- Fetches one CPU instruction at the program counter: the opcode byte, then its operand bytes (R130, R510). -/
def fetchInstr (s : State) : Instr × State :=
  let op := fetch8 s
  readOperand fetch8 fetch16 (decodeOpcode op.1) op.2

/-- One turn of the loop of `Scanline()`: `ExecuteInstruction()`, whose meaning charges its cost, then `AfterInstruction()`
(R16, R510). -/
def cpuStep (s : State) : Result :=
  let f := fetchInstr s
  onNext (exec f.1 f.2) fun t => .next (afterInstruction t)

/-- The loop condition of `Scanline()` (R510, R512). -/
def mayRun (s : State) : Bool := decide ((s.orch.lineCycles : Int) < s.orch.budget) && !s.antic.wsyncHalt

/-- `if wsync_halt = 1: line_cycles <- budget` (R510, R512; a negative budget: log entry 26). -/
def consumeLine (s : State) : State :=
  if s.antic.wsyncHalt then s.setOrch { s.orch with lineCycles := s.orch.budget.toNat } else s

/-- `wsync_halt <- 0` (R513). -/
def releaseWsync (s : State) : State := s.setAntic { s.antic with wsyncHalt := false }

/-- `TopUp()` with the parameters in force, for the scanline just completed (R466, R513). -/
def topUpAudio (s : State) : State :=
  s.setPokey (topUp s.params.samplesPerFrame.val s.params.polyCadence.val s.antic.scanline s.pokey)

/-- `FrameBoundary()` (R515): the audio buffer is handed over and restarted, the NMI latch is cleared, the picture is handed
over. Pacing changes no state (R516; log entry 14). -/
def frameBoundary (s : State) : State :=
  let sound : Sound := ⟨s.pokey.samples, 2 * s.pokey.sampleIndex⟩
  let picture : Picture := ⟨s.antic.fb, Config.palette s.gtia.colbk⟩
  ((s.setPokey { s.pokey with sampleIndex := 0 }).setOrch { s.orch with nmiInService := false }).setSinks
    ⟨some picture, some sound⟩

/-- `TopUp()`, `nextScanline()` and, at the wrap, `FrameBoundary()` (R513). -/
def finishScanline (s : State) : State :=
  let s := topUpAudio s
  let s := s.setAntic (nextScanline s.antic)
  if s.antic.scanline = 0 then frameBoundary s else s

/-- `EndOfScanline()` (R513); scan-task events may fall before it. -/
def endOfScanline (s : State) : Result :=
  onNext (drawScanline (releaseWsync (scanTick s))) fun t => .next (finishScanline t)

/-- The start of `Scanline()`: the budget less the display-list cycles, the counters at 0 (R511). -/
def startScanline (s : State) : State :=
  (s.setOrch { s.orch with
    budget := (Config.cyclesPerScanline : Int) - s.antic.dmaCycles, lineCycles := 0 }).setAntic
      { s.antic with dmaCycles := 0 }

/-- The turn from one scanline to the next (R510): the rest of the line is consumed, the end-of-scanline step runs, the next
scanline starts (log entry 12). -/
def scanlineTurn (s : State) : Result :=
  onNext (endOfScanline (consumeLine s)) fun t => .next (startScanline t)

end Sys2Proof.Machine
end

