-- ==== Sys2Proof/Machine/HostOps.lean ====
section
/-! DEFINITION. What the host may do between two instructions: the loader and `SetPC` (`65_orchestrator.md` R525, R526) and the
machine reset (`70_reset_and_hazards.md` R540 to R549). These are operations outside `step` (log entries 13, 15). -/

namespace Sys2Proof.Machine

/-- A loader write: into the backing store directly, past the router (R525). -/
def loaderWrite (a : Word) (v : Byte) (s : State) : State := writeRam a v s

/-- Loader writes of a byte list from address `a` on. -/
def loadBytes (a : Word) : List Byte → State → State
  | [], s => s
  | v :: l, s => loadBytes (a + 1) l (loaderWrite a v s)

/-- `SetPC(addr)` (R526). -/
def hostSetPc (a : Word) (s : State) : State := setPc a s

/-- The CPU reset (R541): `PC` from the reset vector through the router and `I` set; the registers the spec leaves
unspecified come from `free` (log entry 27). -/
def cpuReset (free : Cpu) (s : State) : State :=
  let v := read16 Config.vecReset s
  v.2.setCpu { free with pc := v.1, i := true }

/-- The machine reset (R540): adapter, chips, orchestrator, CPU, in this order, with the values of R541 and R543 to R547; `RAM`, the
images and the parameters are not changed (R548). `FB` and the sample buffer are unspecified after a reset (R47, R53, R543, R545,
R548): keeping the old picture and the old samples is the model's own choice (DESIGN CHOICE, unsafe: log entry 28). -/
def hostReset (free : Cpu) (s : State) : State :=
  let s := s.setPia .reset
  let s := s.setAntic { Antic.reset with fb := s.antic.fb }
  let s := s.setGtia (.reset s.params)
  let s := s.setPokey { Pokey.reset with samples := s.pokey.samples }
  let s := s.setOrch .reset
  cpuReset free s

/-- Where a program that the loader places for the next step stands: at `PC`, if its longest instruction lies in plain RAM
there, else at 0x0600 (log entry 13). -/
def runAddress (s : State) : Word := if s.cpu.pc.toNat + 2 < Config.selftestLo then s.cpu.pc else 0x0600

/-- Makes the next step a CPU step: a scanline with budget left and no WSYNC halt; nothing where that holds already. -/
def readyToRun (s : State) : State :=
  if mayRun s then s
  else
    (s.setOrch { s.orch with lineCycles := 0, budget := Config.cyclesPerScanline }).setAntic
      { s.antic with wsyncHalt := false }

/-- The loader places `bytes` and sets `PC` there, so that the next step runs them (R525, R526, R552). -/
def loadAndRun (bytes : List Byte) (s : State) : State :=
  readyToRun (hostSetPc (runAddress s) (loadBytes (runAddress s) bytes s))

end Sys2Proof.Machine
end

