-- ==== Sys2Proof/Machine/Step.lean ====
section
/-! DEFINITION. One step of the machine (`65_orchestrator.md` R510): one CPU instruction with its interrupt check while the
scanline's budget lasts, otherwise the turn to the next scanline (log entry 12). -/

namespace Sys2Proof.Machine

/-- One step. -/
def step (s : State) : Host.Outcome State Fault Refusal := if mayRun s then cpuStep s else scanlineTurn s

/-- `s` with an instruction of the opcode table placed as the next one to run (log entry 13). -/
def State.withFetchWord (s : State) (nbits w : Nat) : State := loadAndRun (tableBytes nbits w) s

end Sys2Proof.Machine
end

