-- ==== Sys2Proof/Safety.lean ====
section
/-! DEFINITION. The terms claims use: what a memory access may change, what it means that an instruction completes with a given
effect and changes nothing else, and the invariants of the machine. -/

namespace Sys2Proof.Machine

/-! ## What an access may change -/

/-- `t` is `s` but for what the scan task writes: the input latches (R111, R523) and the schedule they come from. -/
structure OnlyLatches (s t : State) : Prop where
  cpu : t.cpu = s.cpu
  ram : t.ram = s.ram
  antic : t.antic = s.antic
  gtia : t.gtia = { s.gtia with trig := t.gtia.trig, consolIn := t.gtia.consolIn }
  pokey : t.pokey = { s.pokey with kbcode := t.pokey.kbcode, keyDown := t.pokey.keyDown, irqst := t.pokey.irqst }
  pia : t.pia = { s.pia with portaIn := t.pia.portaIn }
  orch : t.orch = s.orch
  params : t.params = s.params
  collisionPass : t.collisionPass = s.collisionPass
  sinks : t.sinks = s.sinks

/-- `t` is `s` but for the input latches and the noise polynomials, which a read of `RANDOM` advances (R102, R457). -/
structure OnlyReads (s t : State) : Prop where
  cpu : t.cpu = s.cpu
  ram : t.ram = s.ram
  antic : t.antic = s.antic
  gtia : t.gtia = { s.gtia with trig := t.gtia.trig, consolIn := t.gtia.consolIn }
  pokey : t.pokey = { s.pokey with
    kbcode := t.pokey.kbcode, keyDown := t.pokey.keyDown, irqst := t.pokey.irqst,
    poly4 := t.pokey.poly4, poly5 := t.pokey.poly5, poly9 := t.pokey.poly9, poly17 := t.pokey.poly17 }
  pia : t.pia = { s.pia with portaIn := t.pia.portaIn }
  orch : t.orch = s.orch
  params : t.params = s.params
  collisionPass : t.collisionPass = s.collisionPass
  sinks : t.sinks = s.sinks

/-- The address selects `RANDOM`, the one register whose read has a side effect (R102, R457). -/
def selectsRandom (a : Word) : Bool := hiByte a == Config.pokeyPage && chipOffset Config.pokeyOffsetBits a == 0xA

/-- `operand()` of a memory operand: the address computation's reads and then one read of the effective address. -/
def operandOf (m : MemMode) (s : State) : Byte × State := memRead (effAddr m s).1.addr (effAddr m s).2

/-- `s` after `n` more cycles. -/
def spent (n : Nat) (s : State) : Orch := { s.orch with lineCycles := s.orch.lineCycles + n }

/-! ## What it means that an instruction completes -/

/-- The outcome is a next state: `s1`, which `s` leaves by reads alone, with the register file `c` and `cost` cycles spent. So
every byte of memory, every chip register and every register not named in `c` is as in `s`. -/
structure Computes (s s1 : State) (c : Cpu) (cost : Nat) (r : Result) : Prop where
  runs : r = .next { s1 with cpu := c, orch := spent cost s }
  frame : OnlyReads s s1

/-- The outcome is a next state with the register file `c`, in which the byte `v` was stored at `addr` after the reads that lead
from `s` to `s1`. Outside the register window one byte of RAM changes and no chip register; inside it no byte of RAM changes
and the chips are what the register write makes of them. -/
structure Stores (s s1 : State) (addr : Word) (v : Byte) (c : Cpu) (cost : Nat) (r : Result) : Prop where
  reads : OnlyReads s s1
  runs : ∃ t, r = .next t ∧ t.cpu = c ∧ t.orch = spent cost s ∧
    (∀ a, ramByte t a = if inIoWindow addr = false ∧ a = addr.toNat then v else ramByte s a) ∧
    (inIoWindow addr = false → OnlyReads s { t with cpu := s.cpu, ram := s.ram, orch := s.orch }) ∧
    (inIoWindow addr = true → t = { ioWrite addr v (scanTick s1) with cpu := c, orch := spent cost s })

/-- The outcome is a next state with the register file `c`, in which the bytes `l` were stored in RAM at the addresses given with
them; every other byte of RAM and every chip register is as in `s`. -/
structure Pushes (s : State) (l : List (Word × Byte)) (c : Cpu) (cost : Nat) (r : Result) : Prop where
  runs : ∃ t, r = .next t ∧ t.cpu = c ∧ t.orch = spent cost s ∧
    (∀ w v, (w, v) ∈ l → ramByte t w.toNat = v) ∧
    (∀ a, (∀ w v, (w, v) ∈ l → a ≠ w.toNat) → ramByte t a = ramByte s a) ∧
    OnlyLatches s { t with cpu := s.cpu, ram := s.ram, orch := s.orch }

/-! ## Invariants -/

/-- The canonical form of the backing store and of the two images. -/
def memoryWf (s : State) : Bool :=
  Memory.wf Config.ramFill Config.ramSize s.ram
    && Memory.wf Config.romFill Config.osRomSize s.params.osRom
    && Memory.wf Config.romFill Config.basicRomSize s.params.basicRom

/-- The pixel rows kept are rows of the visible window, each `FB_WIDTH` pixels long (R47, R395). -/
def frameBufferWf (f : FrameBuffer) : Bool :=
  f.all fun r => decide (r.1 < Config.visibleLines) && decide (r.2.length = Config.fbWidth)

/-- The video coprocessor's legal states: the scanline counter counts one frame (R44), the fixed bits of `NMIST` read as R385
says. -/
def anticLegal (a : Antic) : Prop :=
  a.scanline < Config.scanlinesPerFrame ∧ a.nmist &&& 0x3F = 0x1F ∧ frameBufferWf a.fb = true

/-- The collision registers hold no bit above bit 3 (R427). -/
def collisionsLegal (g : Gtia) : Prop :=
  ∀ i, i < 4 → g.mpf.get i &&& 0xF0 = 0 ∧ g.ppf.get i &&& 0xF0 = 0 ∧ g.mpl.get i &&& 0xF0 = 0 ∧ g.ppl.get i &&& 0xF0 = 0

/-- The noise registers are in the orbit of nonzero states (R462), the periods are positive (R461). -/
def noiseLegal (p : Pokey) : Prop :=
  p.poly4 ≠ 0 ∧ p.poly5 ≠ 0 ∧ p.poly9 ≠ 0 ∧ p.poly17 ≠ 0 ∧ ∀ i, i < 4 → 1 ≤ p.period.get i

/-- Only the keyboard source is ever pending, and only while it is enabled (R473 to R475). -/
def irqLegal (p : Pokey) : Prop := p.irqst ||| 0x40 = 0xFF ∧ ~~~p.irqst &&& ~~~p.irqen = 0

/-- Bits 7:6 of the adapter's control registers read 0 (R496, R497). -/
def controlLegal (p : Pia) : Prop := p.pactl &&& 0xC0 = 0 ∧ p.pbctl &&& 0xC0 = 0

/-- The chips are in a legal state. -/
structure ChipsLegal (s : State) : Prop where
  antic : anticLegal s.antic
  collisions : collisionsLegal s.gtia
  noise : noiseLegal s.pokey
  irq : irqLegal s.pokey
  control : controlLegal s.pia

/-- A safe run of `n` steps: neither a fault nor a refusal ends it. -/
def runsFor : Nat → State → Prop
  | 0, _ => True
  | n + 1, s => ∃ t, step s = .next t ∧ runsFor n t

/-! ## Forms of instructions -/

/-- `i` runs in `s` as a read of the memory operand `o`: its byte put through `f` into the register file, `pen` extra cycles when
the address computation crosses a page. -/
def ReadsAs (o : MemMode) (f : Byte → Cpu → Cpu) (cost pen : Nat) (i : Instr) (s : State) : Prop :=
  Computes s (operandOf o s).2 (f (operandOf o s).1 s.cpu) (cost + if (effAddr o s).1.px then pen else 0) (exec i s)

/-- The eight forms of an accumulator instruction: immediate, zero page, zero page by X, absolute, absolute by X and by Y,
indexed indirect, indirect indexed, with the costs of R570. -/
def AccumulatorForms (f : Byte → Cpu → Cpu) (imm zp zpx : Byte → Instr) (abs absx absy : Word → Instr)
    (indx indy : Byte → Instr) : Prop :=
  ∀ (s : State) (m z : Byte) (w : Word),
    Computes s s (f m s.cpu) 2 (exec (imm m) s) ∧ ReadsAs (.zp z) f 3 0 (zp z) s ∧ ReadsAs (.zpx z) f 4 0 (zpx z) s ∧
    ReadsAs (.abs w) f 4 0 (abs w) s ∧ ReadsAs (.absx w) f 4 1 (absx w) s ∧ ReadsAs (.absy w) f 4 1 (absy w) s ∧
    ReadsAs (.indx z) f 6 0 (indx z) s ∧ ReadsAs (.indy z) f 5 1 (indy z) s

/-- `i` stores `v` at the address of the memory operand `o`. -/
def StoresAs (o : MemMode) (v : Byte) (cost : Nat) (i : Instr) (s : State) : Prop :=
  Stores s (effAddr o s).2 (effAddr o s).1.addr v s.cpu cost (exec i s)

/-- `i` reads the memory operand `o` and stores the byte `f` makes of it at the same address. -/
def ModifiesAs (o : MemMode) (f : Byte → Cpu → Byte × Cpu) (cost : Nat) (i : Instr) (s : State) : Prop :=
  Stores s (operandOf o s).2 (effAddr o s).1.addr (f (operandOf o s).1 s.cpu).1 (f (operandOf o s).1 s.cpu).2 cost (exec i s)

/-- The four memory forms of a read-modify-write instruction: zero page, zero page by X, absolute, absolute by X. -/
def ModifyForms (f : Byte → Cpu → Byte × Cpu) (zp zpx : Byte → Instr) (abs absx : Word → Instr) : Prop :=
  ∀ (s : State) (z : Byte) (w : Word), memoryWf s = true →
    ModifiesAs (.zp z) f 5 (zp z) s ∧ ModifiesAs (.zpx z) f 6 (zpx z) s ∧
    ModifiesAs (.abs w) f 6 (abs w) s ∧ ModifiesAs (.absx w) f 7 (absx w) s

/-- A part of `undocTable`. -/
def undocTable0 : List (Byte × Instr) := [
  (0x02, .undoc02), (0x03, .undoc03), (0x04, .undoc04), (0x07, .undoc07), (0x0B, .undoc0B),
  (0x0C, .undoc0C), (0x0F, .undoc0F), (0x12, .undoc12), (0x13, .undoc13), (0x14, .undoc14),
  (0x17, .undoc17), (0x1A, .undoc1A), (0x1B, .undoc1B), (0x1C, .undoc1C), (0x1F, .undoc1F),
  (0x22, .undoc22), (0x23, .undoc23), (0x27, .undoc27), (0x2B, .undoc2B), (0x2F, .undoc2F),
  (0x32, .undoc32), (0x33, .undoc33), (0x34, .undoc34), (0x37, .undoc37), (0x3A, .undoc3A),
  (0x3B, .undoc3B), (0x3C, .undoc3C), (0x3F, .undoc3F), (0x42, .undoc42), (0x43, .undoc43),
  (0x44, .undoc44), (0x47, .undoc47), (0x4B, .undoc4B), (0x4F, .undoc4F), (0x52, .undoc52)]

/-- A part of `undocTable`. -/
def undocTable1 : List (Byte × Instr) := [
  (0x53, .undoc53), (0x54, .undoc54), (0x57, .undoc57), (0x5A, .undoc5A), (0x5B, .undoc5B),
  (0x5C, .undoc5C), (0x5F, .undoc5F), (0x62, .undoc62), (0x63, .undoc63), (0x64, .undoc64),
  (0x67, .undoc67), (0x6B, .undoc6B), (0x6F, .undoc6F), (0x72, .undoc72), (0x73, .undoc73),
  (0x74, .undoc74), (0x77, .undoc77), (0x7A, .undoc7A), (0x7B, .undoc7B), (0x7C, .undoc7C),
  (0x7F, .undoc7F), (0x80, .undoc80), (0x82, .undoc82), (0x83, .undoc83), (0x87, .undoc87),
  (0x89, .undoc89), (0x8B, .undoc8B), (0x8F, .undoc8F), (0x92, .undoc92), (0x93, .undoc93),
  (0x97, .undoc97), (0x9B, .undoc9B), (0x9C, .undoc9C), (0x9E, .undoc9E), (0x9F, .undoc9F)]

/-- A part of `undocTable`. -/
def undocTable2 : List (Byte × Instr) := [
  (0xA3, .undocA3), (0xA7, .undocA7), (0xAB, .undocAB), (0xAF, .undocAF), (0xB2, .undocB2),
  (0xB3, .undocB3), (0xB7, .undocB7), (0xBB, .undocBB), (0xBF, .undocBF), (0xC2, .undocC2),
  (0xC3, .undocC3), (0xC7, .undocC7), (0xCB, .undocCB), (0xCF, .undocCF), (0xD2, .undocD2),
  (0xD3, .undocD3), (0xD4, .undocD4), (0xD7, .undocD7), (0xDA, .undocDA), (0xDB, .undocDB),
  (0xDC, .undocDC), (0xDF, .undocDF), (0xE2, .undocE2), (0xE3, .undocE3), (0xE7, .undocE7),
  (0xEB, .undocEB), (0xEF, .undocEF), (0xF2, .undocF2), (0xF3, .undocF3), (0xF4, .undocF4),
  (0xF7, .undocF7), (0xFA, .undocFA), (0xFB, .undocFB), (0xFC, .undocFC), (0xFF, .undocFF)]

/-- The undocumented opcode bytes of R155, each with its instruction. -/
def undocTable : List (Byte × Instr) := undocTable0 ++ undocTable1 ++ undocTable2

end Sys2Proof.Machine
end

