-- ==== Sys2Proof/Certificates/Slice0/Obligations.lean ====
section
/-! DEFINITION. The statements for the provers, from the numbered rules of the spec. -/

section Statements

open Sys2Proof Sys2Proof.Machine

/-! ## Encoding -/

/-- Decoding an encoded instruction gives it back, with every operand at every value (R121, R131, R301, R303). -/
def Obligations.DecodeOfEncode : Prop :=
  ∀ (i : Instr) (rest : List Byte), i.wellFormed = true → decodeAs i (encode i ++ rest) = .ok (i, rest)

/-- What a decoder reads is well formed, belongs to its instruction set, and encodes to the bytes read; and neither decoder
refuses any byte (R130, R303, R315). -/
def Obligations.EncodeOfDecode : Prop :=
  (∀ (op b1 b2 : Byte) (rest : List Byte),
    (∃ i l, decode (op :: b1 :: b2 :: rest) = .ok (i, l)) ∧ (∃ i l, decodeDl (op :: b1 :: b2 :: rest) = .ok (i, l))) ∧
  ∀ (bytes : List Byte) (i : Instr) (rest : List Byte),
    (decode bytes = .ok (i, rest) → i.isDisplayList = false ∧ i.wellFormed = true ∧ encode i ++ rest = bytes) ∧
    (decodeDl bytes = .ok (i, rest) → i.isDisplayList = true ∧ i.wellFormed = true ∧ encode i ++ rest = bytes)

/-- Words written out from the encodings of the spec decode to the instructions they stand for (R131, R303). -/
def Obligations.SampleWordsDecode : Prop :=
  decode [0xA9, 0x80] = .ok (.ldaImm 0x80, []) ∧ decode [0xB1, 0x10] = .ok (.ldaIndy 0x10, []) ∧
  decode [0x8E, 0x34, 0x12] = .ok (.stxAbs 0x1234, []) ∧ decode [0x08] = .ok (.php, []) ∧
  decode [0xE9, 0xF0] = .ok (.sbcImm 0xF0, []) ∧ decode [0x5D, 0xFF, 0x2F] = .ok (.eorAbsx 0x2FFF, []) ∧
  decode [0x90, 0x7F] = .ok (.bcc 0x7F, []) ∧ decode [0x6C, 0xFF, 0x02] = .ok (.jmpInd 0x02FF, []) ∧
  decode [0x40] = .ok (.rti, []) ∧ decode [0x02] = .ok (.undoc02, []) ∧
  decodeDl [0x90] = .ok (.dlBlank true 1, []) ∧ decodeDl [0x41, 0x00, 0x30] = .ok (.dlJvb false false false 0x3000, []) ∧
  decodeDl [0x42, 0x00, 0x40] = .ok (.dlModeLms false false false 2 0x4000, [])

/-! ## Memory -/

/-- The effective address and the page-cross bit of every memory addressing mode, in integers (R143 to R150). -/
def Obligations.EffectiveAddresses : Prop :=
  ∀ (s : State) (z : Byte) (w : Word),
    effAddr (.zp z) s = (⟨z.setWidth 16, false⟩, s) ∧
    effAddr (.zpx z) s = (⟨BitVec.ofNat 16 ((z.toNat + s.cpu.x.toNat) % 256), false⟩, s) ∧
    effAddr (.zpy z) s = (⟨BitVec.ofNat 16 ((z.toNat + s.cpu.y.toNat) % 256), false⟩, s) ∧
    effAddr (.abs w) s = (⟨w, false⟩, s) ∧
    effAddr (.absx w) s = (⟨BitVec.ofNat 16 (w.toNat + s.cpu.x.toNat),
      decide ((w.toNat + s.cpu.x.toNat) % 65536 / 256 ≠ w.toNat / 256)⟩, s) ∧
    effAddr (.absy w) s = (⟨BitVec.ofNat 16 (w.toNat + s.cpu.y.toNat),
      decide ((w.toNat + s.cpu.y.toNat) % 65536 / 256 ≠ w.toNat / 256)⟩, s) ∧
    (let p := (z.toNat + s.cpu.x.toNat) % 256
     let lo := memRead (BitVec.ofNat 16 p) s
     let hi := memRead (BitVec.ofNat 16 ((p + 1) % 256)) lo.2
     effAddr (.indx z) s = (⟨hi.1 ++ lo.1, false⟩, hi.2)) ∧
    (let lo := memRead (BitVec.ofNat 16 z.toNat) s
     let hi := memRead (BitVec.ofNat 16 ((z.toNat + 1) % 256)) lo.2
     let base := hi.1.toNat * 256 + lo.1.toNat
     effAddr (.indy z) s = (⟨BitVec.ofNat 16 (base + s.cpu.y.toNat),
       decide ((base + s.cpu.y.toNat) % 65536 / 256 ≠ base / 256)⟩, hi.2))

/-- A read changes nothing but the scan task's latches; reading `RANDOM` also steps the noise registers, and no other read has
a side effect (R102, R457). -/
def Obligations.ReadsHaveNoEffect : Prop :=
  ∀ (a : Word) (s : State),
    OnlyReads s (memRead a s).2 ∧
    (selectsRandom a = false → (memRead a s).2 = scanTick s) ∧
    (selectsRandom a = true → (memRead a s).2 = { scanTick s with pokey := polyStep (scanTick s).pokey }) ∧
    OnlyLatches s (scanTick s) ∧ (s.scan = [] → scanTick s = s)

/-- What every address reads as, by the banking bits of port B (R75, R80). -/
def Obligations.ReadMap : Prop :=
  ∀ (a : Word) (s : State),
    let n := a.toNat
    let b := s.pia.portbOut
    (memRead a s).1 =
      if 0xD000 ≤ n ∧ n ≤ 0xD7FF then (ioRead a (scanTick s)).1
      else if 0x5000 ≤ n ∧ n ≤ 0x57FF ∧ b.getLsbD 7 = false ∧ b.getLsbD 0 = true then osByte s (n - 0x5000 + 0x1000)
      else if 0xA000 ≤ n ∧ n ≤ 0xBFFF ∧ b.getLsbD 1 = false then basicByte s (n - 0xA000)
      else if ((0xC000 ≤ n ∧ n ≤ 0xCFFF) ∨ (0xD800 ≤ n ∧ n ≤ 0xFFFF)) ∧ b.getLsbD 0 = true then osByte s (n - 0xC000)
      else ramByte s n

/-- A write goes to the backing store, also under enabled ROM, except in the register window, where it reaches the chips and no
byte of RAM; the ROM images never change (R77, R81). -/
def Obligations.WriteMap : Prop :=
  ∀ (a : Word) (v : Byte) (s : State), memoryWf s = true →
    (∀ n, ramByte (memWrite a v s) n =
      if ¬ (0xD000 ≤ a.toNat ∧ a.toNat ≤ 0xD7FF) ∧ n = a.toNat then v else ramByte s n) ∧
    (memWrite a v s).params = s.params ∧
    (0xD000 ≤ a.toNat ∧ a.toNat ≤ 0xD7FF → memWrite a v s = ioWrite a v (scanTick s))

/-- Read after write outside the register window: the written byte where no ROM shows, else the ROM byte as before the write,
and the written byte under every banking that shows no ROM there (R78). -/
def Obligations.ReadAfterWrite : Prop :=
  ∀ (a : Word) (v : Byte) (s : State), memoryWf s = true → inIoWindow a = false →
    let shows := fun p : Pia => showsSelftest p a || showsBasic p a || showsOs p a
    (memRead a (memWrite a v s)).1 = (if shows s.pia then storeByte s a else v) ∧
    ∀ p : Pia, shows p = false → (memRead a ((memWrite a v s).setPia p)).1 = v

/-- The register window: four mirrored pages for the four chips, four pages for none (R83 to R85). -/
def Obligations.RegisterWindow : Prop :=
  ∀ (a : Word) (v : Byte) (s : State),
    (a.toNat / 256 = 0xD0 → ioRead a s = (gtiaRead (a.toNat % 32) s.gtia, s) ∧
      ioWrite a v s = { s with gtia := gtiaWrite (a.toNat % 32) v s.gtia }) ∧
    (a.toNat / 256 = 0xD2 → ioRead a s =
        ((pokeyRead (a.toNat % 16) s.pokey).1, { s with pokey := (pokeyRead (a.toNat % 16) s.pokey).2 }) ∧
      ioWrite a v s = { s with pokey := pokeyWrite s.params.sampleRate (a.toNat % 16) v s.pokey }) ∧
    (a.toNat / 256 = 0xD3 → ioRead a s = (piaRead (a.toNat % 4) s.pia, s) ∧
      ioWrite a v s = { s with pia := piaWrite (a.toNat % 4) v s.pia }) ∧
    (a.toNat / 256 = 0xD4 → ioRead a s = (anticRead (a.toNat % 16) s.antic, s) ∧
      ioWrite a v s = { s with antic := anticWrite (a.toNat % 16) v s.antic }) ∧
    (a.toNat / 256 ∈ [0xD1, 0xD5, 0xD6, 0xD7] → ioRead a s = (0xFF, s) ∧ ioWrite a v s = s)

/-- Offsets without a register read 0xFF and ignore writes (R382, R383, R436, R458). -/
def Obligations.UnassignedOffsets : Prop :=
  (∀ (g : Gtia) (v : Byte), (∀ o, 0x15 ≤ o → o ≤ 0x1E → gtiaRead o g = 0xFF) ∧
    ∀ o, (0x0D ≤ o ∧ o ≤ 0x11) ∨ (0x1B ≤ o ∧ o ≤ 0x1D) ∨ o = 0x1F → gtiaWrite o v g = g) ∧
  (∀ (p : Pokey) (v : Byte) (rate : Nat), (∀ o, o ≤ 0x8 ∨ (0xB ≤ o ∧ o ≤ 0xD) → pokeyRead o p = (0xFF, p)) ∧
    ∀ o, 0x9 ≤ o → o ≤ 0xD → pokeyWrite rate o v p = p) ∧
  (∀ (a : Antic) (v : Byte), ∀ o ∈ [0x6, 0x8, 0xC, 0xD], anticRead o a = 0xFF ∧ anticWrite o v a = a)

/-! ## Load, store, transfer, stack -/

/-- LDA, LDX, LDY in every form: the register takes the operand, N and Z follow it (R171 to R173). -/
def Obligations.LoadsCompleteWithTheirOperand : Prop :=
  AccumulatorForms (fun v c => { c with a := v, n := v.getLsbD 7, z := decide (v = 0) })
    .ldaImm .ldaZp .ldaZpx .ldaAbs .ldaAbsx .ldaAbsy .ldaIndx .ldaIndy ∧
  ∀ (s : State) (m z : Byte) (w : Word),
    (let ldx := fun (v : Byte) (c : Cpu) => { c with x := v, n := v.getLsbD 7, z := decide (v = 0) }
     Computes s s (ldx m s.cpu) 2 (exec (.ldxImm m) s) ∧ ReadsAs (.zp z) ldx 3 0 (.ldxZp z) s ∧
     ReadsAs (.zpy z) ldx 4 0 (.ldxZpy z) s ∧ ReadsAs (.abs w) ldx 4 0 (.ldxAbs w) s ∧
     ReadsAs (.absy w) ldx 4 1 (.ldxAbsy w) s) ∧
    (let ldy := fun (v : Byte) (c : Cpu) => { c with y := v, n := v.getLsbD 7, z := decide (v = 0) }
     Computes s s (ldy m s.cpu) 2 (exec (.ldyImm m) s) ∧ ReadsAs (.zp z) ldy 3 0 (.ldyZp z) s ∧
     ReadsAs (.zpx z) ldy 4 0 (.ldyZpx z) s ∧ ReadsAs (.abs w) ldy 4 0 (.ldyAbs w) s ∧
     ReadsAs (.absx w) ldy 4 1 (.ldyAbsx w) s)

/-- STA, STX, STY in every form: one byte stored at the computed address, no register and no flag changed (R174 to R176). -/
def Obligations.StoresCompleteWithOneByte : Prop :=
  ∀ (s : State) (z : Byte) (w : Word), memoryWf s = true →
    StoresAs (.zp z) s.cpu.a 3 (.staZp z) s ∧ StoresAs (.zpx z) s.cpu.a 4 (.staZpx z) s ∧
    StoresAs (.abs w) s.cpu.a 4 (.staAbs w) s ∧ StoresAs (.absx w) s.cpu.a 5 (.staAbsx w) s ∧
    StoresAs (.absy w) s.cpu.a 5 (.staAbsy w) s ∧ StoresAs (.indx z) s.cpu.a 6 (.staIndx z) s ∧
    StoresAs (.indy z) s.cpu.a 6 (.staIndy z) s ∧
    StoresAs (.zp z) s.cpu.x 3 (.stxZp z) s ∧ StoresAs (.zpy z) s.cpu.x 4 (.stxZpy z) s ∧
    StoresAs (.abs w) s.cpu.x 4 (.stxAbs w) s ∧
    StoresAs (.zp z) s.cpu.y 3 (.styZp z) s ∧ StoresAs (.zpx z) s.cpu.y 4 (.styZpx z) s ∧
    StoresAs (.abs w) s.cpu.y 4 (.styAbs w) s

/-- The register-only instructions: transfers, increments and decrements of X and Y, the flag instructions and NOP, with every
register and flag they do not name unchanged (R177 to R182, R214 to R217, R271 to R278). -/
def Obligations.RegisterInstructionsComplete : Prop :=
  ∀ s : State,
    let c := s.cpu
    let does := fun (i : Instr) (k : Cpu) => Computes s s k 2 (exec i s)
    does .tax { c with x := c.a, n := c.a.getLsbD 7, z := decide (c.a = 0) } ∧
    does .tay { c with y := c.a, n := c.a.getLsbD 7, z := decide (c.a = 0) } ∧
    does .txa { c with a := c.x, n := c.x.getLsbD 7, z := decide (c.x = 0) } ∧
    does .tya { c with a := c.y, n := c.y.getLsbD 7, z := decide (c.y = 0) } ∧
    does .tsx { c with x := c.sp, n := c.sp.getLsbD 7, z := decide (c.sp = 0) } ∧
    does .txs { c with sp := c.x } ∧
    does .inx { c with x := c.x + 1, n := (c.x + 1).getLsbD 7, z := decide (c.x = 0xFF) } ∧
    does .iny { c with y := c.y + 1, n := (c.y + 1).getLsbD 7, z := decide (c.y = 0xFF) } ∧
    does .dex { c with x := c.x - 1, n := (c.x - 1).getLsbD 7, z := decide (c.x = 1) } ∧
    does .dey { c with y := c.y - 1, n := (c.y - 1).getLsbD 7, z := decide (c.y = 1) } ∧
    does .clc { c with c := false } ∧ does .sec { c with c := true } ∧ does .cli { c with i := false } ∧
    does .sei { c with i := true } ∧ does .cld { c with d := false } ∧ does .sed { c with d := true } ∧
    does .clv { c with v := false } ∧ does .nop c

/-- PHA and PHP store one byte at `0x0100 + SP` and decrement SP; PHP's byte has bits 5 and 4 set (R191, R192). -/
def Obligations.PushesComplete : Prop :=
  ∀ s : State, memoryWf s = true →
    (stackAddr s.cpu.sp).toNat = 0x0100 + s.cpu.sp.toNat ∧
    Pushes s [(stackAddr s.cpu.sp, s.cpu.a)] { s.cpu with sp := s.cpu.sp - 1 } 3 (exec .pha s) ∧
    Pushes s [(stackAddr s.cpu.sp, packP true s.cpu)] { s.cpu with sp := s.cpu.sp - 1 } 3 (exec .php s)

/-- PLA and PLP take the byte at `0x0100 + (SP + 1)`; PLA sets N and Z, PLP every flag from its bit (R193, R194). -/
def Obligations.PullsComplete : Prop :=
  ∀ s : State, ∃ s1, OnlyLatches s s1 ∧
    let v := ramByte s (0x0100 + (s.cpu.sp + 1).toNat)
    Computes s s1 { s.cpu with sp := s.cpu.sp + 1, a := v, n := v.getLsbD 7, z := decide (v = 0) } 4 (exec .pla s) ∧
    Computes s s1 { s.cpu with
      sp := s.cpu.sp + 1, n := v.getLsbD 7, v := v.getLsbD 6, b := v.getLsbD 4, d := v.getLsbD 3, i := v.getLsbD 2,
      z := v.getLsbD 1, c := v.getLsbD 0 } 4 (exec .plp s)

/-- The packed status byte `{N, V, 1, b, D, I, Z, C}`, and unpacking it again (R14, R24). -/
def Obligations.StatusByteLayout : Prop :=
  ∀ (b : Bool) (c k : Cpu),
    (packP b c).toNat = c.n.toNat * 128 + c.v.toNat * 64 + 32 + b.toNat * 16 + c.d.toNat * 8 + c.i.toNat * 4 +
      c.z.toNat * 2 + c.c.toNat ∧
    unpackP (packP b c) k = { k with n := c.n, v := c.v, b := b, d := c.d, i := c.i, z := c.z, c := c.c }

/-! ## Arithmetic and logic -/

/-- ADC and SBC in every form: A and the flags N, V, Z, C from the binary or, with D set, the decimal function (R202, R205). -/
def Obligations.AddSubtractComplete : Prop :=
  AccumulatorForms (fun m c =>
      let u := if c.d then addDec c.a m c.c else addBin c.a m c.c
      { c with a := u.r, n := u.n, v := u.v, z := u.z, c := u.c })
    .adcImm .adcZp .adcZpx .adcAbs .adcAbsx .adcAbsy .adcIndx .adcIndy ∧
  AccumulatorForms (fun m c =>
      let u := if c.d then subDec c.a m c.c else subBin c.a m c.c
      { c with a := u.r, n := u.n, v := u.v, z := u.z, c := u.c })
    .sbcImm .sbcZp .sbcZpx .sbcAbs .sbcAbsx .sbcAbsy .sbcIndx .sbcIndy

/-- Binary addition: the sum modulo 256, C is the unsigned carry, V the signed overflow (R200, R203). -/
def Obligations.BinaryAddition : Prop :=
  ∀ (a m : Byte) (c : Bool),
    let u := addBin a m c
    let t : Int := a.toInt + m.toInt + c.toNat
    u.r.toNat = (a.toNat + m.toNat + c.toNat) % 256 ∧ u.c = decide (255 < a.toNat + m.toNat + c.toNat) ∧
    u.v = decide (t < -128 ∨ 127 < t) ∧ u.z = decide (u.r = 0) ∧ u.n = decide (u.r.toInt < 0)

/-- Binary subtraction: the difference modulo 256, C when no borrow, V the signed overflow; it is the addition of the
complement (R200, R205, R206). -/
def Obligations.BinarySubtraction : Prop :=
  ∀ (a m : Byte) (c : Bool),
    let u := subBin a m c
    let borrow := (!c).toNat
    let t : Int := a.toInt - m.toInt - borrow
    (u.r.toNat : Int) = ((a.toNat : Int) - m.toNat - borrow) % 256 ∧ u.c = decide (m.toNat + borrow ≤ a.toNat) ∧
    u.v = decide (t < -128 ∨ 127 < t) ∧ u.z = decide (u.r = 0) ∧ u.n = decide (u.r.toInt < 0) ∧
    u = addBin a (m ^^^ 0xFF) c

/-- Decimal addition: on digits 0 to 9 the result and the carry are those of the decimal sum; Z is that of the binary sum, N and V
those of the half-adjusted sum, on all operands (R204; `DEC_ARITH` as R204 gives it, log entry 11). -/
def Obligations.DecimalAddition : Prop :=
  ∀ (a m : Byte) (c : Bool),
    let u := addDec a m c
    let units := a.toNat % 16 + m.toNat % 16 + c.toNat
    let t := a.toNat / 16 * 16 + m.toNat / 16 * 16 + (if units > 9 then (units + 6) % 16 + 16 else units)
    let w := if t > 0x9F then t + 0x60 else t
    u.r.toNat = w % 256 ∧ u.c = decide (w > 0xFF) ∧ u.z = decide ((a.toNat + m.toNat + c.toNat) % 256 = 0) ∧
    u.n = t.testBit 7 ∧ u.v = (a.getLsbD 7 == m.getLsbD 7 && a.getLsbD 7 != t.testBit 7) ∧
    (a.toNat % 16 ≤ 9 → a.toNat / 16 ≤ 9 → m.toNat % 16 ≤ 9 → m.toNat / 16 ≤ 9 →
      let sum := (a.toNat / 16 * 10 + a.toNat % 16) + (m.toNat / 16 * 10 + m.toNat % 16) + c.toNat
      u.r.toNat / 16 * 10 + u.r.toNat % 16 = sum % 100 ∧ u.r.toNat % 16 ≤ 9 ∧ u.c = decide (sum > 99))

/-- Decimal subtraction: on digits 0 to 9 the result is the decimal difference modulo 100; all four flags are those of the binary
subtraction (R207; `DEC_ARITH` as R207 gives it, log entry 11). -/
def Obligations.DecimalSubtraction : Prop :=
  ∀ (a m : Byte) (c : Bool),
    let u := subDec a m c
    let b := subBin a m c
    u.n = b.n ∧ u.v = b.v ∧ u.z = b.z ∧ u.c = b.c ∧
    (let al := (a.toNat % 16 : Int) - (m.toNat % 16 : Int) - (!c).toNat
     let t := (a.toNat / 16 * 16 : Int) - (m.toNat / 16 * 16 : Int) + (if al < 0 then (al - 6) % 16 - 16 else al)
     (u.r.toNat : Int) = (if t < 0 then t - 0x60 else t) % 256) ∧
    (a.toNat % 16 ≤ 9 → a.toNat / 16 ≤ 9 → m.toNat % 16 ≤ 9 → m.toNat / 16 ≤ 9 →
      let d : Int := (a.toNat / 16 * 10 + a.toNat % 16 : Int) - (m.toNat / 16 * 10 + m.toNat % 16 : Int) - (!c).toNat
      ((u.r.toNat / 16 * 10 + u.r.toNat % 16 : Nat) : Int) = d % 100 ∧ u.r.toNat % 16 ≤ 9 ∧ u.c = decide (0 ≤ d))

/-- CMP, CPX, CPY in every form: N and Z of the difference, C when no borrow; no register, V and D untouched and unread
(R209 to R211). -/
def Obligations.ComparesComplete : Prop :=
  let cmp := fun (r m : Byte) (c : Cpu) =>
    { c with n := (r - m).getLsbD 7, z := decide (r = m), c := decide (m.toNat ≤ r.toNat) }
  AccumulatorForms (fun m c => cmp c.a m c)
    .cmpImm .cmpZp .cmpZpx .cmpAbs .cmpAbsx .cmpAbsy .cmpIndx .cmpIndy ∧
  ∀ (s : State) (m z : Byte) (w : Word),
    Computes s s (cmp s.cpu.x m s.cpu) 2 (exec (.cpxImm m) s) ∧
    ReadsAs (.zp z) (fun m c => cmp c.x m c) 3 0 (.cpxZp z) s ∧
    ReadsAs (.abs w) (fun m c => cmp c.x m c) 4 0 (.cpxAbs w) s ∧
    Computes s s (cmp s.cpu.y m s.cpu) 2 (exec (.cpyImm m) s) ∧
    ReadsAs (.zp z) (fun m c => cmp c.y m c) 3 0 (.cpyZp z) s ∧
    ReadsAs (.abs w) (fun m c => cmp c.y m c) 4 0 (.cpyAbs w) s

/-- AND, ORA, EOR in every form (R231 to R233) and BIT, which takes N and V from the operand (R234). -/
def Obligations.LogicCompletes : Prop :=
  let put := fun (r : Byte) (c : Cpu) => { c with a := r, n := r.getLsbD 7, z := decide (r = 0) }
  AccumulatorForms (fun m c => put (c.a &&& m) c)
    .andImm .andZp .andZpx .andAbs .andAbsx .andAbsy .andIndx .andIndy ∧
  AccumulatorForms (fun m c => put (c.a ||| m) c)
    .oraImm .oraZp .oraZpx .oraAbs .oraAbsx .oraAbsy .oraIndx .oraIndy ∧
  AccumulatorForms (fun m c => put (c.a ^^^ m) c)
    .eorImm .eorZp .eorZpx .eorAbs .eorAbsx .eorAbsy .eorIndx .eorIndy ∧
  ∀ (s : State) (z : Byte) (w : Word),
    let bit := fun (m : Byte) (c : Cpu) =>
      { c with n := m.getLsbD 7, v := m.getLsbD 6, z := decide (c.a &&& m = 0) }
    ReadsAs (.zp z) bit 3 0 (.bitZp z) s ∧ ReadsAs (.abs w) bit 4 0 (.bitAbs w) s

/-- INC and DEC of memory: one byte, modulo 256, stored back at the address it was read from; N and Z follow it, C and V stay
(R212, R213). -/
def Obligations.IncrementDecrementMemory : Prop :=
  let put := fun (r : Byte) (c : Cpu) => (r, { c with n := r.getLsbD 7, z := decide (r = 0) })
  ModifyForms (fun v c => put (BitVec.ofNat 8 (v.toNat + 1)) c) .incZp .incZpx .incAbs .incAbsx ∧
  ModifyForms (fun v c => put (BitVec.ofNat 8 (v.toNat + 255)) c) .decZp .decZpx .decAbs .decAbsx

/-- ASL, LSR, ROL, ROR on memory and on A, in integers: the bit shifted out goes to C, N and Z follow the result
(R235 to R238). -/
def Obligations.ShiftsComplete : Prop :=
  let put := fun (n : Nat) (out : Bool) (c : Cpu) =>
    let r := BitVec.ofNat 8 n
    (r, { c with c := out, n := r.getLsbD 7, z := decide (r = 0) })
  let asl := fun (v : Byte) (c : Cpu) => put (v.toNat * 2) (decide (128 ≤ v.toNat)) c
  let lsr := fun (v : Byte) (c : Cpu) => put (v.toNat / 2) (decide (v.toNat % 2 = 1)) c
  let rol := fun (v : Byte) (c : Cpu) => put (v.toNat * 2 + c.c.toNat) (decide (128 ≤ v.toNat)) c
  let ror := fun (v : Byte) (c : Cpu) => put (v.toNat / 2 + c.c.toNat * 128) (decide (v.toNat % 2 = 1)) c
  ModifyForms asl .aslZp .aslZpx .aslAbs .aslAbsx ∧ ModifyForms lsr .lsrZp .lsrZpx .lsrAbs .lsrAbsx ∧
  ModifyForms rol .rolZp .rolZpx .rolAbs .rolAbsx ∧ ModifyForms ror .rorZp .rorZpx .rorAbs .rorAbsx ∧
  ∀ s : State,
    let onA := fun (f : Byte → Cpu → Byte × Cpu) (i : Instr) =>
      Computes s s { (f s.cpu.a s.cpu).2 with a := (f s.cpu.a s.cpu).1 } 2 (exec i s)
    onA asl .aslAcc ∧ onA lsr .lsrAcc ∧ onA rol .rolAcc ∧ onA ror .rorAcc

/-! ## Control transfer -/

/-- The eight branches: taken exactly on their flag, to the next instruction's address plus the signed displacement modulo 65536;
2, 3 or 4 cycles (R152, R251 to R258). -/
def Obligations.BranchesComplete : Prop :=
  ∀ (s : State) (d : Byte),
    let target := BitVec.ofInt 16 (s.cpu.pc.toNat + d.toInt)
    let branch := fun (taken : Bool) (i : Instr) =>
      Computes s s (if taken then { s.cpu with pc := target } else s.cpu)
        (if taken then (if target.toNat / 256 = s.cpu.pc.toNat / 256 then 3 else 4) else 2) (exec i s)
    branch (!s.cpu.c) (.bcc d) ∧ branch s.cpu.c (.bcs d) ∧ branch s.cpu.z (.beq d) ∧ branch (!s.cpu.z) (.bne d) ∧
    branch s.cpu.n (.bmi d) ∧ branch (!s.cpu.n) (.bpl d) ∧ branch (!s.cpu.v) (.bvc d) ∧ branch s.cpu.v (.bvs d)

/-- JMP absolute, and JMP indirect with the pointer's page kept for the high byte (R260, R261). -/
def Obligations.JumpsComplete : Prop :=
  ∀ (s : State) (w : Word),
    Computes s s { s.cpu with pc := w } 3 (exec (.jmpAbs w) s) ∧
    (let lo := memRead w s
     let hi := memRead (BitVec.ofNat 16 (w.toNat / 256 * 256 + (w.toNat + 1) % 256)) lo.2
     Computes s hi.2 { s.cpu with pc := hi.1 ++ lo.1 } 5 (exec (.jmpInd w) s))

/-- JSR pushes the address of its own last byte, high byte first, and jumps; RTS pulls an address and adds one; so an RTS right
after a JSR leaves every CPU register as it was before the JSR (R262, R263). -/
def Obligations.SubroutinesComplete : Prop :=
  ∀ (s : State) (w : Word), memoryWf s = true →
    Pushes s [(stackAddr s.cpu.sp, hiByte (s.cpu.pc - 1)), (stackAddr (s.cpu.sp - 1), loByte (s.cpu.pc - 1))]
      { s.cpu with pc := w, sp := s.cpu.sp - 2 } 6 (exec (.jsr w) s) ∧
    ∃ s1, OnlyLatches s s1 ∧
      Computes s s1 { s.cpu with
        sp := s.cpu.sp + 2
        pc := wordOfBytes (ramByte s (0x0100 + (s.cpu.sp + 1).toNat)) (ramByte s (0x0100 + (s.cpu.sp + 2).toNat)) + 1 }
        6 (exec .rts s) ∧
      ∀ t u, exec (.jsr w) s = .next t → exec .rts t = .next u → u.cpu = s.cpu

/-- BRK: skips the padding byte, pushes PC and the status with bit 4 set, sets I and B, and goes through the vector at 0xFFFE, with
no other flag changed and no NMI latch touched (R281, R340). -/
def Obligations.BreakCompletes : Prop :=
  ∀ s : State, memoryWf s = true →
    Pushes s [(stackAddr s.cpu.sp, hiByte (s.cpu.pc + 1)), (stackAddr (s.cpu.sp - 1), loByte (s.cpu.pc + 1)),
        (stackAddr (s.cpu.sp - 2), packP true s.cpu)]
      { s.cpu with
        sp := s.cpu.sp - 3, b := true, i := true, pc := wordOfBytes (storeByte s 0xFFFE) (storeByte s 0xFFFF) }
      7 (exec .brk s)

/-- RTI: the seven flags from the pulled status byte, then PC with no adjustment; the NMI latch only by the parameter (R282,
R353). -/
def Obligations.ReturnFromInterruptCompletes : Prop :=
  ∀ s : State, ∃ s1, OnlyLatches s s1 ∧
    let byte := fun k : Nat => ramByte s (0x0100 + (s.cpu.sp + BitVec.ofNat 8 k).toNat)
    let v := byte 1
    exec .rti s = .next { s1 with
      cpu := { s.cpu with
        sp := s.cpu.sp + 3, pc := wordOfBytes (byte 2) (byte 3), n := v.getLsbD 7, v := v.getLsbD 6, b := v.getLsbD 4,
        d := v.getLsbD 3, i := v.getLsbD 2, z := v.getLsbD 1, c := v.getLsbD 0 }
      orch := { s.orch with
        lineCycles := s.orch.lineCycles + 6
        nmiInService := if s.params.nmiLatchClearOnRti then false else s.orch.nmiInService } }

/-- The undocumented opcodes are the 105 bytes of R155, one instruction of one byte each; an
undocumented opcode does what `UNDOC_EXEC` says and nothing else: its register file and flags, its writes in order through
the router, at least one cycle; no interrupt, no stop (R290). The value of `UNDOC_EXEC` is left open (log entry 2). -/
def Obligations.UndocumentedOpcodesComplete : Prop :=
  undocTable.map Prod.fst = [
        0x02, 0x03, 0x04, 0x07, 0x0B, 0x0C, 0x0F, 0x12, 0x13, 0x14, 0x17, 0x1A, 0x1B, 0x1C, 0x1F, 0x22,
        0x23, 0x27, 0x2B, 0x2F, 0x32, 0x33, 0x34, 0x37, 0x3A, 0x3B, 0x3C, 0x3F, 0x42, 0x43, 0x44, 0x47,
        0x4B, 0x4F, 0x52, 0x53, 0x54, 0x57, 0x5A, 0x5B, 0x5C, 0x5F, 0x62, 0x63, 0x64, 0x67, 0x6B, 0x6F,
        0x72, 0x73, 0x74, 0x77, 0x7A, 0x7B, 0x7C, 0x7F, 0x80, 0x82, 0x83, 0x87, 0x89, 0x8B, 0x8F, 0x92,
        0x93, 0x97, 0x9B, 0x9C, 0x9E, 0x9F, 0xA3, 0xA7, 0xAB, 0xAF, 0xB2, 0xB3, 0xB7, 0xBB, 0xBF, 0xC2,
        0xC3, 0xC7, 0xCB, 0xCF, 0xD2, 0xD3, 0xD4, 0xD7, 0xDA, 0xDB, 0xDC, 0xDF, 0xE2, 0xE3, 0xE7, 0xEB,
        0xEF, 0xF2, 0xF3, 0xF4, 0xF7, 0xFA, 0xFB, 0xFC, 0xFF] ∧
  (∀ p ∈ undocTable, decode [p.1] = .ok (p.2, [])) ∧
  ∀ (s : State) (p : Byte × Instr), p ∈ undocTable →
    let e := Config.undocExec p.1 s.cpu (fun a => (routeRead a s).1)
    ∃ t, exec p.2 s = .next t ∧
      t.cpu = ⟨e.a, e.x, e.y, e.sp, s.cpu.pc + BitVec.ofNat 16 e.pcExtra, e.c, e.z, e.i, e.d, e.b, e.v, e.n⟩ ∧
      t.orch = spent (1 + e.cyclesExtra) s ∧ t.params = s.params ∧ t.sinks = s.sinks ∧
      t.collisionPass = s.collisionPass ∧
      (let w := e.writes.foldl (fun (u : State) x => memWrite x.1 x.2 u) s
       t.ram = w.ram ∧ t.antic = w.antic ∧ t.gtia = w.gtia ∧ t.pokey = w.pokey ∧ t.pia = w.pia ∧ t.scan = w.scan) ∧
      (∀ a, (∀ x ∈ e.writes, x.1.toNat ≠ a) → memoryWf s = true → ramByte t a = ramByte s a)

/-! ## Display-list instructions -/

/-- BLANK, JMP and JVB: the cursor and the mode-line state they set, JVB's request, and the DLI modifier (R304 to R307, R310). That
every field these rules do not name keeps its value (JVB's `mode_height`; class, bytes, units, offset and stride of all three) is the
model's own reading of them (log entry 20). -/
def Obligations.BlankAndJumpsComplete : Prop :=
  ∀ (s : State) (dli vs hs : Bool) (count : BitVec 3) (addr : Word),
    let a := s.antic
    let vbi := a.nmien.getLsbD 6
    let irq := fun (b : Antic) => if dli && a.nmien.getLsbD 7 then
      { b with pendingDli := true, nmist := b.nmist ||| 0x80 } else b
    exec (.dlBlank dli count) s = .next { s with antic := irq { a with
      curDli := dli, curVscroll := count.getLsbD 1, curHscroll := count.getLsbD 0, rowInMode := 0
      curMode := 0, rowsLeft := count.toNat + 1, modeHeight := count.toNat + 1 } } ∧
    exec (.dlJmp dli vs hs addr) s = .next { s with antic := irq { a with
      curDli := dli, curVscroll := vs, curHscroll := hs, rowInMode := 0
      dlPc := addr, curMode := 0, rowsLeft := 1, modeHeight := 1 } } ∧
    exec (.dlJvb dli vs hs addr) s = .next { s with antic := irq { a with
      curDli := dli, curVscroll := vs, curHscroll := hs, rowInMode := 0
      dlPc := addr, curMode := 0, rowsLeft := 0, dlActive := false
      pendingVbi := a.pendingVbi || vbi, nmist := if vbi then a.nmist ||| 0x40 else a.nmist } }

/-- MODE 2 to 15, with and without LMS: height, class, bytes and the widths of the fixed table for each playfield width 1 to 3, the
scan pointer with LMS, and nothing else but the DLI modifier (R308 to R310, R312, R313). -/
def Obligations.ModeLinesComplete : Prop :=
  ∀ (s : State) (dli vs hs : Bool) (m : BitVec 4) (addr : Word) (height bytes : Nat) (char : Bool),
    (m.toNat, height, char, bytes) ∈ [(2, 8, true, 40), (3, 10, true, 40), (4, 8, true, 40), (5, 16, true, 40),
      (6, 8, true, 20), (7, 16, true, 20), (8, 8, false, 10), (9, 4, false, 10), (10, 4, false, 20), (11, 2, false, 20),
      (12, 1, false, 20), (13, 2, false, 40), (14, 1, false, 40), (15, 1, false, 40)] →
    s.antic.dmactl.getLsbD 0 = true ∨ s.antic.dmactl.getLsbD 1 = true →
    let w := s.antic.dmactl.toNat % 4
    let units := fun k : Nat => if k = 1 then bytes * 4 / 5 else if k = 2 then bytes else bytes * 6 / 5
    let irq := fun (b : Antic) => if dli && s.antic.nmien.getLsbD 7 then
      { b with pendingDli := true, nmist := b.nmist ||| 0x80 } else b
    let line := { s.antic with
      curDli := dli, curVscroll := vs, curHscroll := hs, rowInMode := 0
      curMode := m, modeHeight := height, isChar := char, bytesPerLine := bytes, rowsLeft := height
      renderUnits := units w, xOffset := if w = 1 then 64 else if w = 2 then 32 else 0
      stride := if hs then units (min (w + 1) 3) else units w }
    exec (.dlMode dli vs hs m) s = .next { s with antic := irq line } ∧
    exec (.dlModeLms dli vs hs m addr) s = .next { s with antic := irq { line with memscan := addr } }

/-- With the playfield width 0 a mode line completes too and leaves the decoded widths alone (R308, R313 "`Width` is not
evaluated"; the model's choice, log entry 17). -/
def Obligations.ModeLinesWithoutWidth : Prop :=
  ∀ (s : State) (dli vs hs : Bool) (m : BitVec 4) (addr : Word), modeLineNumber m = true →
    s.antic.dmactl.getLsbD 0 = false → s.antic.dmactl.getLsbD 1 = false →
    ∀ i ∈ [Instr.dlMode dli vs hs m, Instr.dlModeLms dli vs hs m addr],
      ∃ t, exec i s = .next t ∧ t.antic.renderUnits = s.antic.renderUnits ∧ t.antic.xOffset = s.antic.xOffset ∧
        t.antic.stride = s.antic.stride ∧ t.antic.curMode = m ∧ t.antic.rowsLeft = t.antic.modeHeight

/-- The display list is fetched byte by byte through the router: the instruction executed is the one the bytes at `dl_pc` decode
to, `dl_pc` moves past them and each costs one cycle (R300, R302, R304). -/
def Obligations.DisplayListFetch : Prop :=
  ∀ s : State, s.scan = [] →
    (∀ k, k < 3 → inIoWindow (s.antic.dlPc + BitVec.ofNat 16 k) = false) →
    ∃ i rest, decodeDl [storeByte s s.antic.dlPc, storeByte s (s.antic.dlPc + 1), storeByte s (s.antic.dlPc + 2)] =
        .ok (i, rest) ∧
      processDisplayList s = exec i { s with antic := { s.antic with
        dlPc := s.antic.dlPc + BitVec.ofNat 16 (encode i).length
        dmaCycles := s.antic.dmaCycles + (encode i).length } } ∧
      ∃ t, processDisplayList s = .next t

/-! ## Exceptions -/

/-- Taking an exception: B becomes 0 for IRQ and 1 for NMI and BRK, PC (high byte first) and the status of before go to the stack,
I is set, and PC comes from the vector; nothing else changes (R340, R341, R343, R344). -/
def Obligations.ExceptionEntry : Prop :=
  ∀ (s : State) (k : Trap), memoryWf s = true →
    let vector := match k with | .nmi => 0xFFFA#16 | .irq => 0xFFFE#16 | .brk => 0xFFFE#16
    let b := match k with | .nmi => true | .irq => false | .brk => true
    Pushes s [(stackAddr s.cpu.sp, hiByte s.cpu.pc), (stackAddr (s.cpu.sp - 1), loByte s.cpu.pc),
        (stackAddr (s.cpu.sp - 2), packP b s.cpu)]
      { s.cpu with
        sp := s.cpu.sp - 3, b := b, i := true, pc := wordOfBytes (storeByte s vector) (storeByte s (vector + 1)) }
      0 (.next (enterTrap k s))

/-- The interrupt check: both requests are taken; an NMI is entered exactly when one was pending and none is in service, an IRQ
exactly when no NMI was entered, I is clear and a source is pending; each entry costs 7 cycles; a request taken while an NMI is
in service is lost (R346, R350 to R352, R354). -/
def Obligations.InterruptCheck : Prop :=
  ∀ s : State,
    let s0 := scanTick s
    let request := s0.antic.pendingDli || s0.antic.pendingVbi
    let taken := { s0 with antic := { s0.antic with pendingDli := false, pendingVbi := false } }
    (request = true → s0.orch.nmiInService = false →
      afterInstruction s =
        charge 7 (enterTrap .nmi { taken with orch := { taken.orch with nmiInService := true } })) ∧
    ((request = false ∨ s0.orch.nmiInService = true) → s0.cpu.i = false → irqPending s0.pokey = true →
      afterInstruction s = charge 7 (enterTrap .irq taken)) ∧
    ((request = false ∨ s0.orch.nmiInService = true) → (s0.cpu.i = true ∨ irqPending s0.pokey = false) →
      afterInstruction s = taken)

/-- In the states the rules reach, the IRQ request is pending exactly when some status bit is 0 (R334, R475). -/
def Obligations.IrqRequestIsStatus : Prop :=
  ∀ p : Pokey, irqLegal p →
    irqPending p = ((~~~p.irqst &&& p.irqen) != 0) ∧ irqPending p = (p.irqst != 0xFF)

/-- No instruction sets the NMI latch, and only RTI under its parameter clears it (R351, R353). -/
def Obligations.InstructionsLeaveNmiLatch : Prop :=
  ∀ (i : Instr) (s t : State), exec i s = .next t →
    t.orch.nmiInService = s.orch.nmiInService ∨
      (i = .rti ∧ s.params.nmiLatchClearOnRti = true ∧ t.orch.nmiInService = false)

/-! ## The machine -/

/-- A CPU step runs the decoded instruction: when the three bytes from PC on lie outside the register window and no scan-task event
is due, and they decode to `i`, the step is `exec i` with PC past the instruction's bytes, and then the interrupt check (R16,
R510). -/
def Obligations.StepRunsDecoded : Prop :=
  ∀ (s : State) (i : Instr) (rest : List Byte), mayRun s = true → s.scan = [] →
    (∀ k, k < 3 → inIoWindow (s.cpu.pc + BitVec.ofNat 16 k) = false) →
    decode [storeByte s s.cpu.pc, storeByte s (s.cpu.pc + 1), storeByte s (s.cpu.pc + 2)] = .ok (i, rest) →
    step s = onNext (exec i { s with cpu := { s.cpu with pc := s.cpu.pc + BitVec.ofNat 16 (encode i).length } })
      fun t => .next (afterInstruction t)

/-- The general form: wherever PC points and whatever the scan task does, the step runs the instruction that the bytes fetched one
after the other decode to, as many of them as it has, and the fetch changes PC and nothing else but what reads change (R16,
R101, R130, R510). -/
def Obligations.StepFetchesAnywhere : Prop :=
  ∀ s : State, mayRun s = true →
    let b0 := fetch8 s
    let b1 := fetch8 b0.2
    let b2 := fetch8 b1.2
    ∃ i u, step s = onNext (exec i u) (fun t => .next (afterInstruction t)) ∧
      (∃ rest, decode [b0.1, b1.1, b2.1] = .ok (i, rest) ∧
        u = (if rest.length = 2 then b0.2 else if rest.length = 1 then b1.2 else b2.2)) ∧
      u.cpu = { s.cpu with pc := s.cpu.pc + BitVec.ofNat 16 (encode i).length } ∧
      OnlyReads s { u with cpu := s.cpu }

/-- Every state has a next state: no instruction, register write, display list or reset state stops the machine (R331, R519). That no
undocumented opcode is refused is the model's choice between the two ways R290 allows (log entry 2). -/
def Obligations.EveryStateSteps : Prop := ∀ s : State, ∃ t, step s = .next t

/-- Every step keeps the three memories in their canonical form: the model's own representation of R30 and R31 (log entries 3
and 4). -/
def Obligations.StepKeepsMemoryForm : Prop :=
  ∀ s t : State, memoryWf s = true → step s = .next t → memoryWf t = true

/-- Every step keeps the chips in a legal state: the scanline counter within a frame (R44), the fixed bits of NMIST (R385), pixel
rows of the visible window (R47), collision registers of four bits (R427), noise registers never 0 (R462), only the enabled
keyboard source pending (R473, R474), control registers with bits 7:6 at 0 (R496, R497). -/
def Obligations.StepKeepsChipsLegal : Prop := ∀ s t : State, ChipsLegal s → step s = .next t → ChipsLegal t

/-- The machine after reset meets both invariants (R543 to R546; the memory form is the model's own, log entries 3 and 4). -/
def Obligations.ResetMeetsInvariants : Prop := memoryWf State.reset = true ∧ ChipsLegal State.reset

/-- No step writes the ROM images or any other argument of the model, nor the halt flag (R31, R61). -/
def Obligations.StepKeepsArguments : Prop :=
  ∀ s t : State, step s = .next t → t.params = s.params ∧ t.orch.haltFlag = s.orch.haltFlag

/-- A machine reset from any state: every field the rules give a value has it, PC is the word at OS image offset 0x3FFC, I is set, and
RAM and the arguments are as before (R540 to R548, R550). The model's choices: the picture and the samples, which R543, R545 and R548
leave unspecified after a reset, are as before (log entry 28); the CPU registers R541 leaves unspecified are those the caller names
(log entry 27); and that a reset of `State.reset` with its own registers gives `State.reset` rests on the blank image, the register
values and the empty buffers of log entries 4, 5 and 7. The loader and SetPC change one byte of RAM and PC (R525, R526). -/
def Obligations.HostActions : Prop :=
  ∀ (s : State) (free : Cpu) (a : Word) (v : Byte), memoryWf s = true →
    (let t := hostReset free s
     s.scan = [] → t = { s with
      cpu := { free with
        pc := wordOfBytes (osByte s 0x3FFC) (osByte s 0x3FFD), i := true }
      antic := { Antic.reset with fb := s.antic.fb }
      gtia := Gtia.reset s.params
      pokey := { Pokey.reset with samples := s.pokey.samples }
      pia := Pia.reset
      orch := Orch.reset }) ∧
    hostReset resetCpu State.reset = State.reset ∧
    (∀ n, ramByte (loaderWrite a v s) n = if n = a.toNat then v else ramByte s n) ∧
    loaderWrite a v s = { s with ram := (loaderWrite a v s).ram } ∧
    hostSetPc a s = { s with cpu := { s.cpu with pc := a } }

/-- The values the spec gives for reset: I set and PC the word at 0xFFFC through the router (R541), the banking (R542), every field of
the video, colour and sound coprocessors, of the adapter and of the orchestrator (R543 to R547), the colours being `COLOR_RESET`, 0
each by default. Not stated, because the spec gives no value: the other CPU registers, the picture, the samples. -/
def Obligations.ResetValues : Prop :=
  let s := State.reset
  s.cpu.i = true ∧ s.cpu.pc = (read16 0xFFFC s).1 ∧
  s.pia.osRomEn = true ∧ s.pia.basicRomEn = false ∧ s.pia.selftestEn = false ∧
  s.antic = {
    dmactl := 0, chactl := 0, hscrol := 0, vscrol := 0, pmbase := 0, chbase := 0, nmien := 0, nmist := 0x1F, dlist := 0
    dlPc := 0, rowsLeft := 0, rowInMode := 0, memscan := 0
    curMode := 0, curDli := false, curHscroll := false, curVscroll := false, modeHeight := 0, isChar := false
    bytesPerLine := 0, renderUnits := 0, xOffset := 0, stride := 0
    dlActive := true, scanline := 0, pendingDli := false, pendingVbi := false, wsyncHalt := false, dmaCycles := 0
    fb := s.antic.fb } ∧
  s.gtia = Gtia.reset s.params ∧
  (∀ p : Params, Gtia.reset p = {
    colpm := p.colpmReset, colpf := p.colpfReset, colbk := p.colbkReset
    hposp := ⟨0, 0, 0, 0⟩, hposm := ⟨0, 0, 0, 0⟩, sizep := ⟨0, 0, 0, 0⟩, sizem := 0
    mpf := ⟨0, 0, 0, 0⟩, ppf := ⟨0, 0, 0, 0⟩, mpl := ⟨0, 0, 0, 0⟩, ppl := ⟨0, 0, 0, 0⟩
    trig := ⟨true, true, true, true⟩, consolIn := 0b111 }) ∧
  s.params.colpmReset = ⟨0, 0, 0, 0⟩ ∧ s.params.colpfReset = ⟨0, 0, 0, 0⟩ ∧ s.params.colbkReset = 0 ∧
  s.pokey = {
    audf := ⟨0, 0, 0, 0⟩, audc := ⟨0, 0, 0, 0⟩, divcnt := ⟨0, 0, 0, 0⟩, period := ⟨1, 1, 1, 1⟩
    sq := ⟨false, false, false, false⟩, last := ⟨0, 0, 0, 0⟩
    audctl := 0, irqen := 0, irqst := 0xFF, skctl := 0, kbcode := 0xFF, keyDown := false
    poly4 := 0xF, poly5 := 0x1F, poly9 := 0x1FF, poly17 := 0x1FFFF, polyTick := 0
    samples := s.pokey.samples, sampleIndex := 0 } ∧
  s.pia = { portaOut := 0, ddra := 0, pactl := 0, portbOut := 0xFF, ddrb := 0, pbctl := 0, portaIn := 0xFF } ∧
  s.orch = { nmiInService := false, haltFlag := false, lineCycles := 0, budget := 114 }

/-- When no instruction may run, the step is the turn to the next scanline: the rest of the line is consumed, the end-of-scanline step
answers a state `e`, and the next scanline starts from `e` with a budget of 114 less the display-list cycles of `e`, those being the
one or three of the instruction decoded on this scanline, if one is. The WSYNC halt is over, the scanline counter has moved, and of
what a program can reach only the coprocessors' own state has changed: no CPU register, no byte of RAM, no port, no colour (R510,
R511, R513, R514). That the end of one scanline and the start of the next are one step is the model's reading (log entry 12). -/
def Obligations.ScanlineTurn : Prop :=
  ∀ s : State, mayRun s = false → s.antic.scanline < 312 →
    ∃ e t, endOfScanline (consumeLine s) = .next e ∧ step s = .next t ∧
      t = { e with
        orch := { e.orch with budget := (114 : Int) - e.antic.dmaCycles, lineCycles := 0 }
        antic := { e.antic with dmaCycles := 0 } } ∧
      (let decodes := 8 ≤ s.antic.scanline ∧ s.antic.scanline < 248 ∧ s.antic.idle = false ∧ s.antic.rowsLeft = 0 ∧
        s.antic.dlActive = true
       (decodes → e.antic.dmaCycles = s.antic.dmaCycles + 1 ∨ e.antic.dmaCycles = s.antic.dmaCycles + 3) ∧
       (¬ decodes → e.antic.dmaCycles = s.antic.dmaCycles)) ∧
      t.cpu = s.cpu ∧ t.ram = s.ram ∧ t.params = s.params ∧
      t.pia = { s.pia with portaIn := t.pia.portaIn } ∧
      t.gtia = { s.gtia with
        mpf := t.gtia.mpf, ppf := t.gtia.ppf, mpl := t.gtia.mpl, ppl := t.gtia.ppl, trig := t.gtia.trig,
        consolIn := t.gtia.consolIn } ∧
      t.antic.scanline = (s.antic.scanline + 1) % 312 ∧ t.antic.wsyncHalt = false ∧
      (s.antic.scanline < 311 → t.orch.nmiInService = s.orch.nmiInService) ∧
      (s.antic.scanline = 311 → t.orch.nmiInService = false ∧ t.pokey.sampleIndex = 0 ∧ t.sinks.display.isSome ∧
        t.sinks.audio.isSome)

/-- A write to WSYNC, at any mirror, stops the CPU for the rest of the scanline; the next step is the turn to the next scanline,
which ends the halt (R380, R512). -/
def Obligations.WsyncHaltsTheLine : Prop :=
  ∀ (s : State) (a : Word) (v : Byte), a.toNat / 256 = 0xD4 → a.toNat % 16 = 0xA →
    mayRun (memWrite a v s) = false ∧
    step (memWrite a v s) = scanlineTurn (memWrite a v s) ∧
    ∀ t, step (memWrite a v s) = .next t → t.antic.wsyncHalt = false

/-- The advance of the scanline counter and the frame start at its wrap (R390). -/
def Obligations.ScanlineCounter : Prop :=
  ∀ a : Antic,
    nextScanline a =
      if a.scanline + 1 = 312 then
        { a with
          wsyncHalt := false, scanline := 0, dlPc := a.dlist, dlActive := true, rowsLeft := 0, rowInMode := 0, memscan := 0
          pendingVbi := a.pendingVbi || a.nmien.getLsbD 6
          nmist := if a.nmien.getLsbD 6 then a.nmist ||| 0x40 else a.nmist }
      else { a with wsyncHalt := false, scanline := a.scanline + 1 }

/-- A scanline of a blank line in progress, and every scanline while display-list processing waits for the frame start, is background
in all 384 pixels; the scan pointer and the fetch pointer stay and no cycle is spent. A scanline on which an instruction is decoded
and turns out to be a BLANK, a JMP or a JVB is background too: what the decode left, with one row less, and the scan pointer as
before. With display-list DMA off, or outside the visible window, a scanline consults no display list: the cursor does not move and
no memory is read (R305, R306, R307, R374, R395). -/
def Obligations.BackgroundScanlines : Prop :=
  (∀ s : State, 8 ≤ s.antic.scanline → s.antic.scanline < 248 →
      (s.antic.rowsLeft ≠ 0 ∧ s.antic.curMode.toNat < 2) ∨ (s.antic.rowsLeft = 0 ∧ s.antic.dlActive = false) →
      s.antic.idle = false →
      ∃ t, drawScanline s = .next t ∧
        getRow t.antic.fb (s.antic.scanline - 8) = some (List.replicate 384 (Config.palette s.gtia.colbk)) ∧
        t.antic.memscan = s.antic.memscan ∧ t.antic.dlPc = s.antic.dlPc ∧ t.antic.dmaCycles = s.antic.dmaCycles ∧
        t.antic.rowsLeft = s.antic.rowsLeft - 1) ∧
  (∀ s : State, 8 ≤ s.antic.scanline → s.antic.scanline < 248 → s.antic.idle = false → s.antic.rowsLeft = 0 →
      s.antic.dlActive = true →
      let background := List.replicate 384 (Config.palette s.gtia.colbk)
      ∃ d t, processDisplayList (collisionPass (putRow (s.antic.scanline - 8) background s)) = .next d ∧
        drawScanline s = .next t ∧
        (d.antic.curMode.toNat < 2 →
          t = { d with antic := { d.antic with
            rowInMode := d.antic.rowInMode + (if d.antic.rowsLeft = 0 then 0 else 1)
            rowsLeft := d.antic.rowsLeft - 1 } } ∧
          t.antic.memscan = s.antic.memscan ∧ getRow t.antic.fb (s.antic.scanline - 8) = some background)) ∧
  ∀ s : State, s.antic.idle = true ∨ s.antic.scanline < 8 ∨ 248 ≤ s.antic.scanline →
    ∃ t, drawScanline s = .next t ∧ t.antic = { s.antic with fb := t.antic.fb } ∧ t.pokey = s.pokey ∧ t.scan = s.scan ∧
      t.cpu = s.cpu ∧ t.ram = s.ram ∧ t.pia = s.pia ∧ t.orch = s.orch

/-- Every scanline of a mode line: one row less, and the scan pointer advances by the stride in a bitmap mode on every row, in a
character mode after the last row only; one full pixel row is written. The first scanline of a mode line is the one that decodes
it (and the only one in the modes 12, 14 and 15): it goes on from the state `d` that the decode answers, with the whole height
before it; the others continue a line in progress and fetch nothing (R395, R397). -/
def Obligations.ModeLineScanlines : Prop :=
  (∀ s : State, 8 ≤ s.antic.scanline → s.antic.scanline < 248 → s.antic.idle = false → s.antic.rowsLeft ≠ 0 →
    2 ≤ s.antic.curMode.toNat →
    ∃ t row, drawScanline s = .next t ∧ t.antic.rowsLeft = s.antic.rowsLeft - 1 ∧
      t.antic.rowInMode = s.antic.rowInMode + 1 ∧
      t.antic.memscan = (if s.antic.isChar = true ∧ s.antic.rowsLeft ≠ 1 then s.antic.memscan
        else s.antic.memscan + BitVec.ofNat 16 s.antic.stride) ∧
      t.antic.dlPc = s.antic.dlPc ∧ t.antic.dmaCycles = s.antic.dmaCycles ∧
      getRow t.antic.fb (s.antic.scanline - 8) = some row ∧ row.length = 384) ∧
  ∀ s : State, 8 ≤ s.antic.scanline → s.antic.scanline < 248 → s.antic.idle = false → s.antic.rowsLeft = 0 →
    s.antic.dlActive = true →
    let background := List.replicate 384 (Config.palette s.gtia.colbk)
    ∃ d t, processDisplayList (collisionPass (putRow (s.antic.scanline - 8) background s)) = .next d ∧
      drawScanline s = .next t ∧
      (2 ≤ d.antic.curMode.toNat →
        d.antic.rowsLeft = d.antic.modeHeight ∧ 1 ≤ d.antic.modeHeight ∧
        t.antic = { d.antic with
          rowsLeft := d.antic.modeHeight - 1, rowInMode := 1
          memscan := if d.antic.isChar = true ∧ d.antic.modeHeight ≠ 1 then d.antic.memscan
            else d.antic.memscan + BitVec.ofNat 16 d.antic.stride
          fb := t.antic.fb } ∧
        ∃ row, getRow t.antic.fb (s.antic.scanline - 8) = some row ∧ row.length = 384)

/-! ## Chip registers -/

/-- Collision bits accumulate: a render pass and every register write but the one to `HITCLR` keep each bit that is set; `HITCLR`
clears all sixteen registers at once; and what a render pass adds to each register are the low four bits of its draw (R398, R428,
R430). The draw is left open, whatever it is (log entry 9). -/
def Obligations.CollisionsAccumulate : Prop :=
  ∀ (g : Gtia) (n o i k : Nat) (v : Byte), i < 4 →
    (∀ f ∈ [Gtia.mpf, Gtia.ppf, Gtia.mpl, Gtia.ppl],
      (((f g).get i).getLsbD k = true → ((f (collisionBits n g)).get i).getLsbD k = true) ∧
      (o ≠ 0x1E → f (gtiaWrite o v g) = f g) ∧ (f (gtiaWrite 0x1E v g)).get i = 0) ∧
    (((collisionBits n g).mpf.get i).getLsbD k =
      ((g.mpf.get i).getLsbD k || (decide (k < 4) && (Config.collisionDraw n i).getLsbD k))) ∧
    (((collisionBits n g).ppf.get i).getLsbD k =
      ((g.ppf.get i).getLsbD k || (decide (k < 4) && (Config.collisionDraw n (4 + i)).getLsbD k))) ∧
    (((collisionBits n g).mpl.get i).getLsbD k =
      ((g.mpl.get i).getLsbD k || (decide (k < 4) && (Config.collisionDraw n (8 + i)).getLsbD k))) ∧
    (((collisionBits n g).ppl.get i).getLsbD k =
      ((g.ppl.get i).getLsbD k || (decide (k < 4) && (Config.collisionDraw n (12 + i)).getLsbD k)))

/-- The scan task's setters: joystick and trigger and console switches active low, each console switch alone (R431, R432, R503), a
key pressed, held, released (R476). -/
def Obligations.InputLatches : Prop :=
  (∀ (p : Pia) (up down left right : Bool), setJoystick up down left right p = { p with
      portaIn := BitVec.ofNat 8
        (240 + (!right).toNat * 8 + (!left).toNat * 4 + (!down).toNat * 2 + (!up).toNat) }) ∧
  (∀ (g : Gtia) (i : BitVec 2) (pressed : Bool) (j : Nat), j < 4 →
    (setTrigger i pressed g).trig.get j = if j = i.toNat then !pressed else g.trig.get j) ∧
  (∀ (g : Gtia) (pressed : Bool) (j : Nat), j < 3 →
    ((setConsoleKey .start pressed g).consolIn.getLsbD j = if j = 0 then !pressed else g.consolIn.getLsbD j) ∧
    ((setConsoleKey .select pressed g).consolIn.getLsbD j = if j = 1 then !pressed else g.consolIn.getLsbD j) ∧
    ((setConsoleKey .option pressed g).consolIn.getLsbD j = if j = 2 then !pressed else g.consolIn.getLsbD j)) ∧
  (∀ (p : Pokey) (code : Byte),
    setKey code false p = { p with keyDown := false } ∧
    setKey code true p =
      if p.keyDown = true ∧ p.kbcode = code then p
      else { p with
        keyDown := true, kbcode := code, irqst := if p.irqen.getLsbD 6 then p.irqst &&& 0xBF else p.irqst })

/-- The adapter's ports: control bit 2 selects direction register or data, data writes change output bits only, port A reads mix
latch and joystick, control registers keep six bits (R492, R493). -/
def Obligations.AdapterPorts : Prop :=
  ∀ (p : Pia) (v : Byte) (k : Nat), k < 8 →
    piaRead 2 p = p.pactl ∧ piaRead 3 p = p.pbctl ∧
    piaWrite 2 v p = { p with pactl := v &&& 0x3F } ∧ piaWrite 3 v p = { p with pbctl := v &&& 0x3F } ∧
    (p.pactl.getLsbD 2 = false → piaRead 0 p = p.ddra ∧ piaWrite 0 v p = { p with ddra := v }) ∧
    (p.pbctl.getLsbD 2 = false → piaRead 1 p = p.ddrb ∧ piaWrite 1 v p = { p with ddrb := v }) ∧
    (p.pactl.getLsbD 2 = true →
      (piaRead 0 p).getLsbD k = (if p.ddra.getLsbD k then p.portaOut.getLsbD k else p.portaIn.getLsbD k) ∧
      piaWrite 0 v p = { p with portaOut := (piaWrite 0 v p).portaOut } ∧
      (piaWrite 0 v p).portaOut.getLsbD k = (if p.ddra.getLsbD k then v.getLsbD k else p.portaOut.getLsbD k)) ∧
    (p.pbctl.getLsbD 2 = true →
      piaRead 1 p = p.portbOut ∧
      piaWrite 1 v p = { p with portbOut := (piaWrite 1 v p).portbOut } ∧
      (piaWrite 1 v p).portbOut.getLsbD k = (if p.ddrb.getLsbD k then v.getLsbD k else p.portbOut.getLsbD k))

/-- The noise registers: a step moves all four, each by the right shift whose new top bit is bit 0 exclusive-or bit 1, 2, 5 or 5, and
nothing else; no register ever reaches 0 from a nonzero value, and a step loses nothing (R462, R463); eight reads of `RANDOM` after
reset give the bytes of R457. -/
def Obligations.NoiseRegisters : Prop :=
  (∀ p : Pokey,
    let shifted := fun n tap top : Nat => n / 2 + (n % 2 + n / 2 ^ tap % 2) % 2 * 2 ^ top
    let q := polyStep p
    q.poly4.toNat = shifted p.poly4.toNat 1 3 ∧ q.poly5.toNat = shifted p.poly5.toNat 2 4 ∧
    q.poly9.toNat = shifted p.poly9.toNat 5 8 ∧ q.poly17.toNat = shifted p.poly17.toNat 5 16 ∧
    q = { p with poly4 := q.poly4, poly5 := q.poly5, poly9 := q.poly9, poly17 := q.poly17 }) ∧
  (∀ p : Pokey, noiseLegal p → noiseLegal (polyStep p)) ∧
  (∀ (w t : Nat) (p q : BitVec w), 0 < t → t < w → lfsrStep t p = lfsrStep t q → p = q) ∧
  (∀ (w t : Nat) (p : BitVec w) (k : Nat), 0 < w → k < w →
    (lfsrStep t p).getLsbD k = if k = w - 1 then p.getLsbD 0 ^^ p.getLsbD t else p.getLsbD (k + 1)) ∧
  (let r := fun p : Pokey => (pokeyRead 0xA p).2
   (List.range 8).map (fun n => (pokeyRead 0xA (Nat.repeat r n Pokey.reset)).1) =
     [0x7F, 0x3F, 0x1F, 0x0F, 0x07, 0x03, 0x01, 0x00])

/-- A frame's audio: the top-up for a scanline brings the sample index to the proportional target and never back, and the last
scanline's target is the whole frame (R466). -/
def Obligations.SamplesPerFrame : Prop :=
  ∀ (perFrame cadence n : Nat) (p : Pokey),
    (topUp perFrame cadence n p).sampleIndex = max p.sampleIndex ((n + 1) * perFrame / 312) ∧
    topUpTarget perFrame 311 = perFrame

/-- The periods of the four channels by the formula of R461 in integers, recomputed at every write of a divisor or of `AUDCTL`,
never below 1; and a pure tone: the square wave toggles when its divider runs out, then every `period` samples, at the volume of
its control byte (R453, R460, R461, R465, R468). -/
def Obligations.SoundChannels : Prop :=
  (∀ (p : Pokey) (rate i : Nat), i < 4 →
      let c := p.audctl
      let joined := (i = 0 ∧ c.getLsbD 4 = true) ∨ (i = 2 ∧ c.getLsbD 3 = true)
      let fast := (i = 0 ∧ c.getLsbD 6 = true) ∨ (i = 2 ∧ c.getLsbD 5 = true)
      ∀ n half : Nat,
        (joined → n = (p.audf.get (i + 1)).toNat * 256 + (p.audf.get i).toNat) →
        (¬ joined → n = (p.audf.get i).toNat) →
        (fast → joined → half = n + 7) → (fast → ¬ joined → half = n + 4) →
        (¬ fast → half = (n + 1) * (if c.getLsbD 0 then 114 else 28)) →
        (recompute rate p).period.get i = max 1 ((2 * half * rate + 1773447) / (2 * 1773447)) ∧
        1 ≤ (recompute rate p).period.get i) ∧
  (∀ (p : Pokey) (rate o : Nat) (v : Byte), o ∈ [0x0, 0x2, 0x4, 0x6, 0x8] →
      (pokeyWrite rate o v p).period = (recompute rate (pokeyWrite rate o v p)).period) ∧
  ∀ (p : Pokey) (i : Nat), i < 4 → disabledChannel p.audctl i = false → highPass p.audctl i = false →
    (p.audc.get i).getLsbD 4 = false → (p.audc.get i).toNat / 32 = 5 →
    let ch := channelSample p i
    let toggles := p.divcnt.get i ≤ 0
    ch.sq = (if toggles then !(p.sq.get i) else p.sq.get i) ∧
    ch.divcnt = (if toggles then p.divcnt.get i - 1 + p.period.get i else p.divcnt.get i - 1) ∧
    ch.out = (if ch.sq then (((p.audc.get i).toNat % 16 : Nat) : Int) else 0) ∧ ch.last = ch.out

/-- Every register of the video, colour and sound coprocessors, by offset: what a read answers, and that a write stores the byte in its
one register (or does the register's action: WSYNC, NMIRES, HITCLR, the acknowledge by IRQEN, the recomputed periods) and changes
nothing else (R372, R373, R422, R423, R452, R453, R457, R471, R473). -/
def Obligations.AssignedOffsets : Prop :=
  (∀ (a : Antic) (v : Byte),
    anticRead 0xB a = BitVec.ofNat 8 (a.scanline / 2) ∧ anticRead 0xF a = a.nmist ∧
    (∀ o, o ≠ 0xB → o ≠ 0xF → anticRead o a = 0xFF) ∧
    anticWrite 0x0 v a = { a with dmactl := v } ∧ anticWrite 0x1 v a = { a with chactl := v } ∧
    anticWrite 0x2 v a = { a with dlist := BitVec.ofNat 16 (a.dlist.toNat / 256 * 256 + v.toNat) } ∧
    anticWrite 0x3 v a = { a with dlist := BitVec.ofNat 16 (v.toNat * 256 + a.dlist.toNat % 256) } ∧
    anticWrite 0x4 v a = { a with hscrol := v } ∧ anticWrite 0x5 v a = { a with vscrol := v } ∧
    anticWrite 0x7 v a = { a with pmbase := v } ∧ anticWrite 0x9 v a = { a with chbase := v } ∧
    anticWrite 0xA v a = { a with wsyncHalt := true } ∧ anticWrite 0xB v a = a ∧
    anticWrite 0xE v a = { a with nmien := v } ∧ anticWrite 0xF v a = { a with nmist := 0x1F }) ∧
  (∀ (g : Gtia) (v : Byte) (i : Nat), i < 4 →
    let put := fun q : Quad Byte => Quad.ofFn fun j => if j = i then v else q.get j
    gtiaRead i g = g.mpf.get i &&& 0x0F ∧ gtiaRead (0x04 + i) g = g.ppf.get i &&& 0x0F ∧
    gtiaRead (0x08 + i) g = g.mpl.get i &&& 0x0F ∧ gtiaRead (0x0C + i) g = g.ppl.get i &&& 0x0F ∧
    gtiaRead (0x10 + i) g = (if g.trig.get i then 0x01 else 0x00) ∧ gtiaRead 0x14 g = 0x01 ∧
    gtiaRead 0x1F g = BitVec.ofNat 8 g.consolIn.toNat ∧
    gtiaWrite i v g = { g with hposp := put g.hposp } ∧ gtiaWrite (0x04 + i) v g = { g with hposm := put g.hposm } ∧
    gtiaWrite (0x08 + i) v g = { g with sizep := put g.sizep } ∧ gtiaWrite 0x0C v g = { g with sizem := v } ∧
    gtiaWrite (0x12 + i) v g = { g with colpm := put g.colpm } ∧
    gtiaWrite (0x16 + i) v g = { g with colpf := put g.colpf } ∧ gtiaWrite 0x1A v g = { g with colbk := v } ∧
    gtiaWrite 0x1E v g = { g with
      mpf := ⟨0, 0, 0, 0⟩, ppf := ⟨0, 0, 0, 0⟩, mpl := ⟨0, 0, 0, 0⟩, ppl := ⟨0, 0, 0, 0⟩ }) ∧
  ∀ (p : Pokey) (v : Byte) (rate i : Nat), i < 4 →
    let put := fun q : Quad Byte => Quad.ofFn fun j => if j = i then v else q.get j
    let stepped := polyStep p
    pokeyRead 0x9 p = (p.kbcode, p) ∧
    pokeyRead 0xA p = (if p.audctl.getLsbD 7 then BitVec.ofNat 8 (stepped.poly9.toNat / 2)
      else BitVec.ofNat 8 (stepped.poly17.toNat / 512), stepped) ∧
    pokeyRead 0xE p = (p.irqst, p) ∧ pokeyRead 0xF p = (if p.keyDown then 0xFB else 0xFF, p) ∧
    pokeyWrite rate (2 * i) v p = recompute rate { p with audf := put p.audf } ∧
    pokeyWrite rate (2 * i + 1) v p = { p with audc := put p.audc } ∧
    pokeyWrite rate 0x8 v p = recompute rate { p with audctl := v } ∧
    recompute rate p = { p with period := (recompute rate p).period } ∧
    pokeyWrite rate 0xE v p = { p with irqen := v, irqst := p.irqst ||| (v ^^^ 0xFF) } ∧
    pokeyWrite rate 0xF v p = { p with skctl := v }

end Statements
end

