-- ==== Sys2Proof/Laws/State.lean ====
section
/-! SUPPORT. The field lemmas: one lemma per field per update, true by `rfl`, so that no later proof unfolds a record update. -/

namespace Sys2Proof.Machine

variable (s : State)

/-! ## `State.setCpu` -/

@[simp] theorem State.setCpu_cpu (c : Cpu) : (s.setCpu c).cpu = c := rfl
@[simp] theorem State.setCpu_ram (c : Cpu) : (s.setCpu c).ram = s.ram := rfl
@[simp] theorem State.setCpu_antic (c : Cpu) : (s.setCpu c).antic = s.antic := rfl
@[simp] theorem State.setCpu_gtia (c : Cpu) : (s.setCpu c).gtia = s.gtia := rfl
@[simp] theorem State.setCpu_pokey (c : Cpu) : (s.setCpu c).pokey = s.pokey := rfl
@[simp] theorem State.setCpu_pia (c : Cpu) : (s.setCpu c).pia = s.pia := rfl
@[simp] theorem State.setCpu_orch (c : Cpu) : (s.setCpu c).orch = s.orch := rfl
@[simp] theorem State.setCpu_params (c : Cpu) : (s.setCpu c).params = s.params := rfl
@[simp] theorem State.setCpu_scan (c : Cpu) : (s.setCpu c).scan = s.scan := rfl
@[simp] theorem State.setCpu_collisionPass (c : Cpu) : (s.setCpu c).collisionPass = s.collisionPass := rfl
@[simp] theorem State.setCpu_sinks (c : Cpu) : (s.setCpu c).sinks = s.sinks := rfl

/-! ## `State.setRam` -/

@[simp] theorem State.setRam_cpu (m : Memory) : (s.setRam m).cpu = s.cpu := rfl
@[simp] theorem State.setRam_ram (m : Memory) : (s.setRam m).ram = m := rfl
@[simp] theorem State.setRam_antic (m : Memory) : (s.setRam m).antic = s.antic := rfl
@[simp] theorem State.setRam_gtia (m : Memory) : (s.setRam m).gtia = s.gtia := rfl
@[simp] theorem State.setRam_pokey (m : Memory) : (s.setRam m).pokey = s.pokey := rfl
@[simp] theorem State.setRam_pia (m : Memory) : (s.setRam m).pia = s.pia := rfl
@[simp] theorem State.setRam_orch (m : Memory) : (s.setRam m).orch = s.orch := rfl
@[simp] theorem State.setRam_params (m : Memory) : (s.setRam m).params = s.params := rfl
@[simp] theorem State.setRam_scan (m : Memory) : (s.setRam m).scan = s.scan := rfl
@[simp] theorem State.setRam_collisionPass (m : Memory) : (s.setRam m).collisionPass = s.collisionPass := rfl
@[simp] theorem State.setRam_sinks (m : Memory) : (s.setRam m).sinks = s.sinks := rfl

/-! ## `State.setAntic` -/

@[simp] theorem State.setAntic_cpu (a : Antic) : (s.setAntic a).cpu = s.cpu := rfl
@[simp] theorem State.setAntic_ram (a : Antic) : (s.setAntic a).ram = s.ram := rfl
@[simp] theorem State.setAntic_antic (a : Antic) : (s.setAntic a).antic = a := rfl
@[simp] theorem State.setAntic_gtia (a : Antic) : (s.setAntic a).gtia = s.gtia := rfl
@[simp] theorem State.setAntic_pokey (a : Antic) : (s.setAntic a).pokey = s.pokey := rfl
@[simp] theorem State.setAntic_pia (a : Antic) : (s.setAntic a).pia = s.pia := rfl
@[simp] theorem State.setAntic_orch (a : Antic) : (s.setAntic a).orch = s.orch := rfl
@[simp] theorem State.setAntic_params (a : Antic) : (s.setAntic a).params = s.params := rfl
@[simp] theorem State.setAntic_scan (a : Antic) : (s.setAntic a).scan = s.scan := rfl
@[simp] theorem State.setAntic_collisionPass (a : Antic) : (s.setAntic a).collisionPass = s.collisionPass := rfl
@[simp] theorem State.setAntic_sinks (a : Antic) : (s.setAntic a).sinks = s.sinks := rfl

/-! ## `State.setGtia` -/

@[simp] theorem State.setGtia_cpu (g : Gtia) : (s.setGtia g).cpu = s.cpu := rfl
@[simp] theorem State.setGtia_ram (g : Gtia) : (s.setGtia g).ram = s.ram := rfl
@[simp] theorem State.setGtia_antic (g : Gtia) : (s.setGtia g).antic = s.antic := rfl
@[simp] theorem State.setGtia_gtia (g : Gtia) : (s.setGtia g).gtia = g := rfl
@[simp] theorem State.setGtia_pokey (g : Gtia) : (s.setGtia g).pokey = s.pokey := rfl
@[simp] theorem State.setGtia_pia (g : Gtia) : (s.setGtia g).pia = s.pia := rfl
@[simp] theorem State.setGtia_orch (g : Gtia) : (s.setGtia g).orch = s.orch := rfl
@[simp] theorem State.setGtia_params (g : Gtia) : (s.setGtia g).params = s.params := rfl
@[simp] theorem State.setGtia_scan (g : Gtia) : (s.setGtia g).scan = s.scan := rfl
@[simp] theorem State.setGtia_collisionPass (g : Gtia) : (s.setGtia g).collisionPass = s.collisionPass := rfl
@[simp] theorem State.setGtia_sinks (g : Gtia) : (s.setGtia g).sinks = s.sinks := rfl

/-! ## `State.setPokey` -/

@[simp] theorem State.setPokey_cpu (p : Pokey) : (s.setPokey p).cpu = s.cpu := rfl
@[simp] theorem State.setPokey_ram (p : Pokey) : (s.setPokey p).ram = s.ram := rfl
@[simp] theorem State.setPokey_antic (p : Pokey) : (s.setPokey p).antic = s.antic := rfl
@[simp] theorem State.setPokey_gtia (p : Pokey) : (s.setPokey p).gtia = s.gtia := rfl
@[simp] theorem State.setPokey_pokey (p : Pokey) : (s.setPokey p).pokey = p := rfl
@[simp] theorem State.setPokey_pia (p : Pokey) : (s.setPokey p).pia = s.pia := rfl
@[simp] theorem State.setPokey_orch (p : Pokey) : (s.setPokey p).orch = s.orch := rfl
@[simp] theorem State.setPokey_params (p : Pokey) : (s.setPokey p).params = s.params := rfl
@[simp] theorem State.setPokey_scan (p : Pokey) : (s.setPokey p).scan = s.scan := rfl
@[simp] theorem State.setPokey_collisionPass (p : Pokey) : (s.setPokey p).collisionPass = s.collisionPass := rfl
@[simp] theorem State.setPokey_sinks (p : Pokey) : (s.setPokey p).sinks = s.sinks := rfl

/-! ## `State.setPia` -/

@[simp] theorem State.setPia_cpu (p : Pia) : (s.setPia p).cpu = s.cpu := rfl
@[simp] theorem State.setPia_ram (p : Pia) : (s.setPia p).ram = s.ram := rfl
@[simp] theorem State.setPia_antic (p : Pia) : (s.setPia p).antic = s.antic := rfl
@[simp] theorem State.setPia_gtia (p : Pia) : (s.setPia p).gtia = s.gtia := rfl
@[simp] theorem State.setPia_pokey (p : Pia) : (s.setPia p).pokey = s.pokey := rfl
@[simp] theorem State.setPia_pia (p : Pia) : (s.setPia p).pia = p := rfl
@[simp] theorem State.setPia_orch (p : Pia) : (s.setPia p).orch = s.orch := rfl
@[simp] theorem State.setPia_params (p : Pia) : (s.setPia p).params = s.params := rfl
@[simp] theorem State.setPia_scan (p : Pia) : (s.setPia p).scan = s.scan := rfl
@[simp] theorem State.setPia_collisionPass (p : Pia) : (s.setPia p).collisionPass = s.collisionPass := rfl
@[simp] theorem State.setPia_sinks (p : Pia) : (s.setPia p).sinks = s.sinks := rfl

/-! ## `State.setOrch` -/

@[simp] theorem State.setOrch_cpu (o : Orch) : (s.setOrch o).cpu = s.cpu := rfl
@[simp] theorem State.setOrch_ram (o : Orch) : (s.setOrch o).ram = s.ram := rfl
@[simp] theorem State.setOrch_antic (o : Orch) : (s.setOrch o).antic = s.antic := rfl
@[simp] theorem State.setOrch_gtia (o : Orch) : (s.setOrch o).gtia = s.gtia := rfl
@[simp] theorem State.setOrch_pokey (o : Orch) : (s.setOrch o).pokey = s.pokey := rfl
@[simp] theorem State.setOrch_pia (o : Orch) : (s.setOrch o).pia = s.pia := rfl
@[simp] theorem State.setOrch_orch (o : Orch) : (s.setOrch o).orch = o := rfl
@[simp] theorem State.setOrch_params (o : Orch) : (s.setOrch o).params = s.params := rfl
@[simp] theorem State.setOrch_scan (o : Orch) : (s.setOrch o).scan = s.scan := rfl
@[simp] theorem State.setOrch_collisionPass (o : Orch) : (s.setOrch o).collisionPass = s.collisionPass := rfl
@[simp] theorem State.setOrch_sinks (o : Orch) : (s.setOrch o).sinks = s.sinks := rfl

/-! ## `State.setScan` -/

@[simp] theorem State.setScan_cpu (l : List (List ScanEvent)) : (s.setScan l).cpu = s.cpu := rfl
@[simp] theorem State.setScan_ram (l : List (List ScanEvent)) : (s.setScan l).ram = s.ram := rfl
@[simp] theorem State.setScan_antic (l : List (List ScanEvent)) : (s.setScan l).antic = s.antic := rfl
@[simp] theorem State.setScan_gtia (l : List (List ScanEvent)) : (s.setScan l).gtia = s.gtia := rfl
@[simp] theorem State.setScan_pokey (l : List (List ScanEvent)) : (s.setScan l).pokey = s.pokey := rfl
@[simp] theorem State.setScan_pia (l : List (List ScanEvent)) : (s.setScan l).pia = s.pia := rfl
@[simp] theorem State.setScan_orch (l : List (List ScanEvent)) : (s.setScan l).orch = s.orch := rfl
@[simp] theorem State.setScan_params (l : List (List ScanEvent)) : (s.setScan l).params = s.params := rfl
@[simp] theorem State.setScan_scan (l : List (List ScanEvent)) : (s.setScan l).scan = l := rfl
@[simp] theorem State.setScan_collisionPass (l : List (List ScanEvent)) : (s.setScan l).collisionPass = s.collisionPass := rfl
@[simp] theorem State.setScan_sinks (l : List (List ScanEvent)) : (s.setScan l).sinks = s.sinks := rfl

/-! ## `State.setCollisionPass` -/

@[simp] theorem State.setCollisionPass_cpu (n : Nat) : (s.setCollisionPass n).cpu = s.cpu := rfl
@[simp] theorem State.setCollisionPass_ram (n : Nat) : (s.setCollisionPass n).ram = s.ram := rfl
@[simp] theorem State.setCollisionPass_antic (n : Nat) : (s.setCollisionPass n).antic = s.antic := rfl
@[simp] theorem State.setCollisionPass_gtia (n : Nat) : (s.setCollisionPass n).gtia = s.gtia := rfl
@[simp] theorem State.setCollisionPass_pokey (n : Nat) : (s.setCollisionPass n).pokey = s.pokey := rfl
@[simp] theorem State.setCollisionPass_pia (n : Nat) : (s.setCollisionPass n).pia = s.pia := rfl
@[simp] theorem State.setCollisionPass_orch (n : Nat) : (s.setCollisionPass n).orch = s.orch := rfl
@[simp] theorem State.setCollisionPass_params (n : Nat) : (s.setCollisionPass n).params = s.params := rfl
@[simp] theorem State.setCollisionPass_scan (n : Nat) : (s.setCollisionPass n).scan = s.scan := rfl
@[simp] theorem State.setCollisionPass_collisionPass (n : Nat) : (s.setCollisionPass n).collisionPass = n := rfl
@[simp] theorem State.setCollisionPass_sinks (n : Nat) : (s.setCollisionPass n).sinks = s.sinks := rfl

/-! ## `State.setSinks` -/

@[simp] theorem State.setSinks_cpu (k : Sinks) : (s.setSinks k).cpu = s.cpu := rfl
@[simp] theorem State.setSinks_ram (k : Sinks) : (s.setSinks k).ram = s.ram := rfl
@[simp] theorem State.setSinks_antic (k : Sinks) : (s.setSinks k).antic = s.antic := rfl
@[simp] theorem State.setSinks_gtia (k : Sinks) : (s.setSinks k).gtia = s.gtia := rfl
@[simp] theorem State.setSinks_pokey (k : Sinks) : (s.setSinks k).pokey = s.pokey := rfl
@[simp] theorem State.setSinks_pia (k : Sinks) : (s.setSinks k).pia = s.pia := rfl
@[simp] theorem State.setSinks_orch (k : Sinks) : (s.setSinks k).orch = s.orch := rfl
@[simp] theorem State.setSinks_params (k : Sinks) : (s.setSinks k).params = s.params := rfl
@[simp] theorem State.setSinks_scan (k : Sinks) : (s.setSinks k).scan = s.scan := rfl
@[simp] theorem State.setSinks_collisionPass (k : Sinks) : (s.setSinks k).collisionPass = s.collisionPass := rfl
@[simp] theorem State.setSinks_sinks (k : Sinks) : (s.setSinks k).sinks = k := rfl

/-! ## `setPc` -/

@[simp] theorem setPc_cpu (w : Word) : (setPc w s).cpu = { s.cpu with pc := w } := rfl
@[simp] theorem setPc_ram (w : Word) : (setPc w s).ram = s.ram := rfl
@[simp] theorem setPc_antic (w : Word) : (setPc w s).antic = s.antic := rfl
@[simp] theorem setPc_gtia (w : Word) : (setPc w s).gtia = s.gtia := rfl
@[simp] theorem setPc_pokey (w : Word) : (setPc w s).pokey = s.pokey := rfl
@[simp] theorem setPc_pia (w : Word) : (setPc w s).pia = s.pia := rfl
@[simp] theorem setPc_orch (w : Word) : (setPc w s).orch = s.orch := rfl
@[simp] theorem setPc_params (w : Word) : (setPc w s).params = s.params := rfl
@[simp] theorem setPc_scan (w : Word) : (setPc w s).scan = s.scan := rfl
@[simp] theorem setPc_collisionPass (w : Word) : (setPc w s).collisionPass = s.collisionPass := rfl
@[simp] theorem setPc_sinks (w : Word) : (setPc w s).sinks = s.sinks := rfl

/-! ## `setSp` -/

@[simp] theorem setSp_cpu (v : Byte) : (setSp v s).cpu = { s.cpu with sp := v } := rfl
@[simp] theorem setSp_ram (v : Byte) : (setSp v s).ram = s.ram := rfl
@[simp] theorem setSp_antic (v : Byte) : (setSp v s).antic = s.antic := rfl
@[simp] theorem setSp_gtia (v : Byte) : (setSp v s).gtia = s.gtia := rfl
@[simp] theorem setSp_pokey (v : Byte) : (setSp v s).pokey = s.pokey := rfl
@[simp] theorem setSp_pia (v : Byte) : (setSp v s).pia = s.pia := rfl
@[simp] theorem setSp_orch (v : Byte) : (setSp v s).orch = s.orch := rfl
@[simp] theorem setSp_params (v : Byte) : (setSp v s).params = s.params := rfl
@[simp] theorem setSp_scan (v : Byte) : (setSp v s).scan = s.scan := rfl
@[simp] theorem setSp_collisionPass (v : Byte) : (setSp v s).collisionPass = s.collisionPass := rfl
@[simp] theorem setSp_sinks (v : Byte) : (setSp v s).sinks = s.sinks := rfl

/-! ## `charge` -/

@[simp] theorem charge_cpu (n : Nat) : (charge n s).cpu = s.cpu := rfl
@[simp] theorem charge_ram (n : Nat) : (charge n s).ram = s.ram := rfl
@[simp] theorem charge_antic (n : Nat) : (charge n s).antic = s.antic := rfl
@[simp] theorem charge_gtia (n : Nat) : (charge n s).gtia = s.gtia := rfl
@[simp] theorem charge_pokey (n : Nat) : (charge n s).pokey = s.pokey := rfl
@[simp] theorem charge_pia (n : Nat) : (charge n s).pia = s.pia := rfl
@[simp] theorem charge_orch (n : Nat) : (charge n s).orch = { s.orch with lineCycles := s.orch.lineCycles + n } := rfl
@[simp] theorem charge_params (n : Nat) : (charge n s).params = s.params := rfl
@[simp] theorem charge_scan (n : Nat) : (charge n s).scan = s.scan := rfl
@[simp] theorem charge_collisionPass (n : Nat) : (charge n s).collisionPass = s.collisionPass := rfl
@[simp] theorem charge_sinks (n : Nat) : (charge n s).sinks = s.sinks := rfl

/-! ## `writeRam` -/

@[simp] theorem writeRam_cpu (a : Word) (v : Byte) : (writeRam a v s).cpu = s.cpu := rfl
@[simp] theorem writeRam_ram (a : Word) (v : Byte) : (writeRam a v s).ram = Memory.write Config.ramFill s.ram a.toNat v := rfl
@[simp] theorem writeRam_antic (a : Word) (v : Byte) : (writeRam a v s).antic = s.antic := rfl
@[simp] theorem writeRam_gtia (a : Word) (v : Byte) : (writeRam a v s).gtia = s.gtia := rfl
@[simp] theorem writeRam_pokey (a : Word) (v : Byte) : (writeRam a v s).pokey = s.pokey := rfl
@[simp] theorem writeRam_pia (a : Word) (v : Byte) : (writeRam a v s).pia = s.pia := rfl
@[simp] theorem writeRam_orch (a : Word) (v : Byte) : (writeRam a v s).orch = s.orch := rfl
@[simp] theorem writeRam_params (a : Word) (v : Byte) : (writeRam a v s).params = s.params := rfl
@[simp] theorem writeRam_scan (a : Word) (v : Byte) : (writeRam a v s).scan = s.scan := rfl
@[simp] theorem writeRam_collisionPass (a : Word) (v : Byte) : (writeRam a v s).collisionPass = s.collisionPass := rfl
@[simp] theorem writeRam_sinks (a : Word) (v : Byte) : (writeRam a v s).sinks = s.sinks := rfl

/-! ## `putRow` -/

@[simp] theorem putRow_cpu (y : Nat) (row : List Pixel) : (putRow y row s).cpu = s.cpu := rfl
@[simp] theorem putRow_ram (y : Nat) (row : List Pixel) : (putRow y row s).ram = s.ram := rfl
@[simp] theorem putRow_antic (y : Nat) (row : List Pixel) : (putRow y row s).antic = { s.antic with fb := setRow s.antic.fb y row } := rfl
@[simp] theorem putRow_gtia (y : Nat) (row : List Pixel) : (putRow y row s).gtia = s.gtia := rfl
@[simp] theorem putRow_pokey (y : Nat) (row : List Pixel) : (putRow y row s).pokey = s.pokey := rfl
@[simp] theorem putRow_pia (y : Nat) (row : List Pixel) : (putRow y row s).pia = s.pia := rfl
@[simp] theorem putRow_orch (y : Nat) (row : List Pixel) : (putRow y row s).orch = s.orch := rfl
@[simp] theorem putRow_params (y : Nat) (row : List Pixel) : (putRow y row s).params = s.params := rfl
@[simp] theorem putRow_scan (y : Nat) (row : List Pixel) : (putRow y row s).scan = s.scan := rfl
@[simp] theorem putRow_collisionPass (y : Nat) (row : List Pixel) : (putRow y row s).collisionPass = s.collisionPass := rfl
@[simp] theorem putRow_sinks (y : Nat) (row : List Pixel) : (putRow y row s).sinks = s.sinks := rfl

/-! ## `collisionPass` -/

@[simp] theorem collisionPass_cpu  : (collisionPass s).cpu = s.cpu := rfl
@[simp] theorem collisionPass_ram  : (collisionPass s).ram = s.ram := rfl
@[simp] theorem collisionPass_antic  : (collisionPass s).antic = s.antic := rfl
@[simp] theorem collisionPass_gtia  : (collisionPass s).gtia = collisionBits s.collisionPass s.gtia := rfl
@[simp] theorem collisionPass_pokey  : (collisionPass s).pokey = s.pokey := rfl
@[simp] theorem collisionPass_pia  : (collisionPass s).pia = s.pia := rfl
@[simp] theorem collisionPass_orch  : (collisionPass s).orch = s.orch := rfl
@[simp] theorem collisionPass_params  : (collisionPass s).params = s.params := rfl
@[simp] theorem collisionPass_scan  : (collisionPass s).scan = s.scan := rfl
@[simp] theorem collisionPass_collisionPass  : (collisionPass s).collisionPass = s.collisionPass + 1 := rfl
@[simp] theorem collisionPass_sinks  : (collisionPass s).sinks = s.sinks := rfl

/-! ## `releaseWsync` -/

@[simp] theorem releaseWsync_cpu  : (releaseWsync s).cpu = s.cpu := rfl
@[simp] theorem releaseWsync_ram  : (releaseWsync s).ram = s.ram := rfl
@[simp] theorem releaseWsync_antic  : (releaseWsync s).antic = { s.antic with wsyncHalt := false } := rfl
@[simp] theorem releaseWsync_gtia  : (releaseWsync s).gtia = s.gtia := rfl
@[simp] theorem releaseWsync_pokey  : (releaseWsync s).pokey = s.pokey := rfl
@[simp] theorem releaseWsync_pia  : (releaseWsync s).pia = s.pia := rfl
@[simp] theorem releaseWsync_orch  : (releaseWsync s).orch = s.orch := rfl
@[simp] theorem releaseWsync_params  : (releaseWsync s).params = s.params := rfl
@[simp] theorem releaseWsync_scan  : (releaseWsync s).scan = s.scan := rfl
@[simp] theorem releaseWsync_collisionPass  : (releaseWsync s).collisionPass = s.collisionPass := rfl
@[simp] theorem releaseWsync_sinks  : (releaseWsync s).sinks = s.sinks := rfl

/-! ## `startScanline` -/

@[simp] theorem startScanline_cpu  : (startScanline s).cpu = s.cpu := rfl
@[simp] theorem startScanline_ram  : (startScanline s).ram = s.ram := rfl
@[simp] theorem startScanline_antic  : (startScanline s).antic = { s.antic with dmaCycles := 0 } := rfl
@[simp] theorem startScanline_gtia  : (startScanline s).gtia = s.gtia := rfl
@[simp] theorem startScanline_pokey  : (startScanline s).pokey = s.pokey := rfl
@[simp] theorem startScanline_pia  : (startScanline s).pia = s.pia := rfl
@[simp] theorem startScanline_orch  : (startScanline s).orch = { s.orch with
      budget := (Config.cyclesPerScanline : Int) - s.antic.dmaCycles, lineCycles := 0 } := rfl
@[simp] theorem startScanline_params  : (startScanline s).params = s.params := rfl
@[simp] theorem startScanline_scan  : (startScanline s).scan = s.scan := rfl
@[simp] theorem startScanline_collisionPass  : (startScanline s).collisionPass = s.collisionPass := rfl
@[simp] theorem startScanline_sinks  : (startScanline s).sinks = s.sinks := rfl

variable (k : Cpu)

/-! ## `setNZ` -/

@[simp] theorem setNZ_a (w : Byte) : (setNZ w k).a = k.a := rfl
@[simp] theorem setNZ_x (w : Byte) : (setNZ w k).x = k.x := rfl
@[simp] theorem setNZ_y (w : Byte) : (setNZ w k).y = k.y := rfl
@[simp] theorem setNZ_sp (w : Byte) : (setNZ w k).sp = k.sp := rfl
@[simp] theorem setNZ_pc (w : Byte) : (setNZ w k).pc = k.pc := rfl
@[simp] theorem setNZ_c (w : Byte) : (setNZ w k).c = k.c := rfl
@[simp] theorem setNZ_z (w : Byte) : (setNZ w k).z = (w == 0) := rfl
@[simp] theorem setNZ_i (w : Byte) : (setNZ w k).i = k.i := rfl
@[simp] theorem setNZ_d (w : Byte) : (setNZ w k).d = k.d := rfl
@[simp] theorem setNZ_b (w : Byte) : (setNZ w k).b = k.b := rfl
@[simp] theorem setNZ_v (w : Byte) : (setNZ w k).v = k.v := rfl
@[simp] theorem setNZ_n (w : Byte) : (setNZ w k).n = w.getLsbD 7 := rfl

/-! ## `loadA` -/

@[simp] theorem loadA_a (w : Byte) : (loadA w k).a = w := rfl
@[simp] theorem loadA_x (w : Byte) : (loadA w k).x = k.x := rfl
@[simp] theorem loadA_y (w : Byte) : (loadA w k).y = k.y := rfl
@[simp] theorem loadA_sp (w : Byte) : (loadA w k).sp = k.sp := rfl
@[simp] theorem loadA_pc (w : Byte) : (loadA w k).pc = k.pc := rfl
@[simp] theorem loadA_c (w : Byte) : (loadA w k).c = k.c := rfl
@[simp] theorem loadA_z (w : Byte) : (loadA w k).z = (w == 0) := rfl
@[simp] theorem loadA_i (w : Byte) : (loadA w k).i = k.i := rfl
@[simp] theorem loadA_d (w : Byte) : (loadA w k).d = k.d := rfl
@[simp] theorem loadA_b (w : Byte) : (loadA w k).b = k.b := rfl
@[simp] theorem loadA_v (w : Byte) : (loadA w k).v = k.v := rfl
@[simp] theorem loadA_n (w : Byte) : (loadA w k).n = w.getLsbD 7 := rfl

/-! ## `loadX` -/

@[simp] theorem loadX_a (w : Byte) : (loadX w k).a = k.a := rfl
@[simp] theorem loadX_x (w : Byte) : (loadX w k).x = w := rfl
@[simp] theorem loadX_y (w : Byte) : (loadX w k).y = k.y := rfl
@[simp] theorem loadX_sp (w : Byte) : (loadX w k).sp = k.sp := rfl
@[simp] theorem loadX_pc (w : Byte) : (loadX w k).pc = k.pc := rfl
@[simp] theorem loadX_c (w : Byte) : (loadX w k).c = k.c := rfl
@[simp] theorem loadX_z (w : Byte) : (loadX w k).z = (w == 0) := rfl
@[simp] theorem loadX_i (w : Byte) : (loadX w k).i = k.i := rfl
@[simp] theorem loadX_d (w : Byte) : (loadX w k).d = k.d := rfl
@[simp] theorem loadX_b (w : Byte) : (loadX w k).b = k.b := rfl
@[simp] theorem loadX_v (w : Byte) : (loadX w k).v = k.v := rfl
@[simp] theorem loadX_n (w : Byte) : (loadX w k).n = w.getLsbD 7 := rfl

/-! ## `loadY` -/

@[simp] theorem loadY_a (w : Byte) : (loadY w k).a = k.a := rfl
@[simp] theorem loadY_x (w : Byte) : (loadY w k).x = k.x := rfl
@[simp] theorem loadY_y (w : Byte) : (loadY w k).y = w := rfl
@[simp] theorem loadY_sp (w : Byte) : (loadY w k).sp = k.sp := rfl
@[simp] theorem loadY_pc (w : Byte) : (loadY w k).pc = k.pc := rfl
@[simp] theorem loadY_c (w : Byte) : (loadY w k).c = k.c := rfl
@[simp] theorem loadY_z (w : Byte) : (loadY w k).z = (w == 0) := rfl
@[simp] theorem loadY_i (w : Byte) : (loadY w k).i = k.i := rfl
@[simp] theorem loadY_d (w : Byte) : (loadY w k).d = k.d := rfl
@[simp] theorem loadY_b (w : Byte) : (loadY w k).b = k.b := rfl
@[simp] theorem loadY_v (w : Byte) : (loadY w k).v = k.v := rfl
@[simp] theorem loadY_n (w : Byte) : (loadY w k).n = w.getLsbD 7 := rfl

/-! ## `putAlu` -/

@[simp] theorem putAlu_a (u : Alu) : (putAlu u k).a = u.r := rfl
@[simp] theorem putAlu_x (u : Alu) : (putAlu u k).x = k.x := rfl
@[simp] theorem putAlu_y (u : Alu) : (putAlu u k).y = k.y := rfl
@[simp] theorem putAlu_sp (u : Alu) : (putAlu u k).sp = k.sp := rfl
@[simp] theorem putAlu_pc (u : Alu) : (putAlu u k).pc = k.pc := rfl
@[simp] theorem putAlu_c (u : Alu) : (putAlu u k).c = u.c := rfl
@[simp] theorem putAlu_z (u : Alu) : (putAlu u k).z = u.z := rfl
@[simp] theorem putAlu_i (u : Alu) : (putAlu u k).i = k.i := rfl
@[simp] theorem putAlu_d (u : Alu) : (putAlu u k).d = k.d := rfl
@[simp] theorem putAlu_b (u : Alu) : (putAlu u k).b = k.b := rfl
@[simp] theorem putAlu_v (u : Alu) : (putAlu u k).v = u.v := rfl
@[simp] theorem putAlu_n (u : Alu) : (putAlu u k).n = u.n := rfl

/-! ## `cmpFlags` -/

@[simp] theorem cmpFlags_a (r m : Byte) : (cmpFlags r m k).a = k.a := rfl
@[simp] theorem cmpFlags_x (r m : Byte) : (cmpFlags r m k).x = k.x := rfl
@[simp] theorem cmpFlags_y (r m : Byte) : (cmpFlags r m k).y = k.y := rfl
@[simp] theorem cmpFlags_sp (r m : Byte) : (cmpFlags r m k).sp = k.sp := rfl
@[simp] theorem cmpFlags_pc (r m : Byte) : (cmpFlags r m k).pc = k.pc := rfl
@[simp] theorem cmpFlags_c (r m : Byte) : (cmpFlags r m k).c = decide (m.toNat ≤ r.toNat) := rfl
@[simp] theorem cmpFlags_z (r m : Byte) : (cmpFlags r m k).z = (r - m == 0) := rfl
@[simp] theorem cmpFlags_i (r m : Byte) : (cmpFlags r m k).i = k.i := rfl
@[simp] theorem cmpFlags_d (r m : Byte) : (cmpFlags r m k).d = k.d := rfl
@[simp] theorem cmpFlags_b (r m : Byte) : (cmpFlags r m k).b = k.b := rfl
@[simp] theorem cmpFlags_v (r m : Byte) : (cmpFlags r m k).v = k.v := rfl
@[simp] theorem cmpFlags_n (r m : Byte) : (cmpFlags r m k).n = (r - m).getLsbD 7 := rfl

/-! ## `bitTest` -/

@[simp] theorem bitTest_a (m : Byte) : (bitTest m k).a = k.a := rfl
@[simp] theorem bitTest_x (m : Byte) : (bitTest m k).x = k.x := rfl
@[simp] theorem bitTest_y (m : Byte) : (bitTest m k).y = k.y := rfl
@[simp] theorem bitTest_sp (m : Byte) : (bitTest m k).sp = k.sp := rfl
@[simp] theorem bitTest_pc (m : Byte) : (bitTest m k).pc = k.pc := rfl
@[simp] theorem bitTest_c (m : Byte) : (bitTest m k).c = k.c := rfl
@[simp] theorem bitTest_z (m : Byte) : (bitTest m k).z = ((k.a &&& m) == 0) := rfl
@[simp] theorem bitTest_i (m : Byte) : (bitTest m k).i = k.i := rfl
@[simp] theorem bitTest_d (m : Byte) : (bitTest m k).d = k.d := rfl
@[simp] theorem bitTest_b (m : Byte) : (bitTest m k).b = k.b := rfl
@[simp] theorem bitTest_v (m : Byte) : (bitTest m k).v = m.getLsbD 6 := rfl
@[simp] theorem bitTest_n (m : Byte) : (bitTest m k).n = m.getLsbD 7 := rfl

/-! ## `unpackP` -/

@[simp] theorem unpackP_a (w : Byte) : (unpackP w k).a = k.a := rfl
@[simp] theorem unpackP_x (w : Byte) : (unpackP w k).x = k.x := rfl
@[simp] theorem unpackP_y (w : Byte) : (unpackP w k).y = k.y := rfl
@[simp] theorem unpackP_sp (w : Byte) : (unpackP w k).sp = k.sp := rfl
@[simp] theorem unpackP_pc (w : Byte) : (unpackP w k).pc = k.pc := rfl
@[simp] theorem unpackP_c (w : Byte) : (unpackP w k).c = w.getLsbD 0 := rfl
@[simp] theorem unpackP_z (w : Byte) : (unpackP w k).z = w.getLsbD 1 := rfl
@[simp] theorem unpackP_i (w : Byte) : (unpackP w k).i = w.getLsbD 2 := rfl
@[simp] theorem unpackP_d (w : Byte) : (unpackP w k).d = w.getLsbD 3 := rfl
@[simp] theorem unpackP_b (w : Byte) : (unpackP w k).b = w.getLsbD 4 := rfl
@[simp] theorem unpackP_v (w : Byte) : (unpackP w k).v = w.getLsbD 6 := rfl
@[simp] theorem unpackP_n (w : Byte) : (unpackP w k).n = w.getLsbD 7 := rfl

/-! ## Four like registers -/

variable {α : Type} (q : Quad α) (v : α)

@[simp] theorem Quad.get_zero : q.get 0 = q.q0 := rfl
@[simp] theorem Quad.get_one : q.get 1 = q.q1 := rfl
@[simp] theorem Quad.get_two : q.get 2 = q.q2 := rfl
@[simp] theorem Quad.get_three : q.get 3 = q.q3 := rfl
@[simp] theorem Quad.get_all (i : Nat) : (Quad.all v).get i = v := by unfold Quad.get; split <;> rfl

/-- A written register reads back, another one of the four is as before. -/
theorem Quad.get_set (i j : Nat) (hi : i < 4) (hj : j < 4) : (q.set i v).get j = if j = i then v else q.get j := by
  rcases i with _ | _ | _ | _ | i <;> rcases j with _ | _ | _ | _ | j <;> first | rfl | omega

/-- A register of four given by a function. -/
theorem Quad.get_ofFn (f : Nat → α) (i : Nat) (hi : i < 4) : (Quad.ofFn f).get i = f i := by
  rcases i with _ | _ | _ | _ | i <;> first | rfl | omega

end Sys2Proof.Machine
end

