-- ==== Sys2Proof/Laws/Memory.lean ====
section
/-! SUPPORT. Laws of the sparse memories: a read after a write, and the canonical form, which every write keeps. -/

namespace Sys2Proof.Machine

variable (fill : Byte) (size : Nat)

/-- Below every listed address an unlisted address reads as `fill`. -/
theorem Memory.read_below (m : Memory) (a : Nat) (h : m.all (fun c => decide (a < c.1)) = true) :
    Memory.read fill m a = fill := by
  induction m with
  | nil => rfl
  | cons c m ih =>
    simp only [List.all_cons, Bool.and_eq_true, decide_eq_true_eq] at h
    simp only [Memory.read]
    rw [if_neg (by omega), ih h.2]

/-- A read after a write: the written byte at the written address, elsewhere what was there. -/
theorem Memory.read_write (m : Memory) (a b : Nat) (v : Byte) (h : Memory.wf fill size m = true) :
    Memory.read fill (Memory.write fill m a v) b = if b = a then v else Memory.read fill m b := by
  induction m with
  | nil =>
    simp only [Memory.write]
    split <;> simp_all [Memory.read]
  | cons c m ih =>
    obtain ⟨k, w⟩ := c
    simp only [Memory.wf, Bool.and_eq_true, decide_eq_true_eq] at h
    obtain ⟨⟨⟨-, -⟩, hall⟩, hm⟩ := h
    have below : ∀ x, x ≤ k → Memory.read fill m x = fill := fun x hx =>
      Memory.read_below fill m x (by
        simp only [List.all_eq_true, decide_eq_true_eq] at hall ⊢
        intro c hc; have := hall c hc; omega)
    simp only [Memory.write]
    split
    · rename_i hak
      split <;> simp only [Memory.read]
      · rename_i hv
        by_cases hb : b = a
        · subst hb; rw [if_neg (by omega), if_pos rfl, below _ (by omega), hv]
        · rw [if_neg hb]
    · split
      · rename_i hak
        subst hak
        split
        · rename_i hv
          by_cases hb : b = a
          · subst hb; simp only [Memory.read, if_true]; rw [below _ (by omega), hv]
          · simp only [Memory.read, if_neg hb]
        · simp only [Memory.read]; by_cases hb : b = a <;> simp [hb]
      · simp only [Memory.read, ih hm]
        by_cases hbk : b = k
        · subst hbk; simp; intro h; omega
        · simp [hbk]

/-- Whatever lies below every listed address and below `a` still does after a write at `a`. -/
theorem Memory.all_write (m : Memory) (k a : Nat) (v : Byte) (hk : k < a)
    (h : m.all (fun c => decide (k < c.1)) = true) :
    (Memory.write fill m a v).all (fun c => decide (k < c.1)) = true := by
  induction m with
  | nil => simp only [Memory.write]; split <;> simp [hk]
  | cons c m ih =>
    obtain ⟨b, w⟩ := c
    simp only [List.all_cons, Bool.and_eq_true, decide_eq_true_eq] at h
    simp only [Memory.write]
    split
    · split <;> simp only [List.all_cons, Bool.and_eq_true, decide_eq_true_eq]
      · exact h
      · exact ⟨hk, h⟩
    · split
      · split
        · exact h.2
        · simp only [List.all_cons, Bool.and_eq_true, decide_eq_true_eq]; exact ⟨hk, h.2⟩
      · simp only [List.all_cons, Bool.and_eq_true, decide_eq_true_eq]; exact ⟨h.1, ih h.2⟩

/-- Every write inside the address space keeps the canonical form. -/
theorem Memory.wf_write (m : Memory) (a : Nat) (v : Byte) (ha : a < size) (h : Memory.wf fill size m = true) :
    Memory.wf fill size (Memory.write fill m a v) = true := by
  induction m with
  | nil => simp only [Memory.write]; split <;> simp_all [Memory.wf]
  | cons c m ih =>
    obtain ⟨b, w⟩ := c
    have h' := h
    simp only [Memory.wf, Bool.and_eq_true, decide_eq_true_eq] at h
    obtain ⟨⟨⟨hb, hw⟩, hall⟩, hm⟩ := h
    simp only [Memory.write]
    split
    · rename_i hab
      split
      · exact h'
      · rename_i hv
        rw [Memory.wf, h']
        simp only [Bool.and_eq_true, decide_eq_true_eq, List.all_cons]
        refine ⟨⟨⟨ha, by simpa using hv⟩, hab, ?_⟩, trivial⟩
        simp only [List.all_eq_true, decide_eq_true_eq] at hall ⊢
        intro c hc; have := hall c hc; omega
    · split
      · rename_i hab
        subst hab
        split
        · exact hm
        · rename_i hv
          simp only [Memory.wf, Bool.and_eq_true, decide_eq_true_eq]
          exact ⟨⟨⟨ha, by simpa using hv⟩, hall⟩, hm⟩
      · simp only [Memory.wf, Bool.and_eq_true, decide_eq_true_eq]
        exact ⟨⟨⟨hb, hw⟩, Memory.all_write fill m b a v (by omega) hall⟩, ih hm⟩

/-- The memory of the machine after reset is in canonical form. -/
theorem reset_memory_wf : Memory.wf Config.ramFill Config.ramSize State.reset.ram = true := rfl

/-- A pixel row put into the frame buffer reads back; the other rows are as before. -/
theorem getRow_setRow (f : FrameBuffer) (y z : Nat) (row : List Pixel) :
    getRow (setRow f y row) z = if z = y then some row else getRow f z := by
  induction f with
  | nil => by_cases h : z = y <;> simp [setRow, getRow, h]
  | cons c f ih =>
    obtain ⟨k, old⟩ := c
    simp only [setRow]
    split
    · simp only [getRow]
    · split
      · rename_i h; subst h
        by_cases hz : z = y <;> simp [getRow, hz]
      · simp only [getRow, ih]
        by_cases hk : z = k
        · subst hk; simp; intro h; omega
        · simp [hk]

end Sys2Proof.Machine
end

