-- ==== Sys2Proof/Laws/Access.lean ====
section
/-! SUPPORT. What the shared operations can do, said once: the scan task, the router, the memory primitives, the stack. -/

namespace Sys2Proof.Machine

/-! ## The two access relations -/

theorem OnlyLatches.refl (s : State) : OnlyLatches s s := ⟨rfl, rfl, rfl, rfl, rfl, rfl, rfl, rfl, rfl, rfl⟩

theorem OnlyReads.refl (s : State) : OnlyReads s s := ⟨rfl, rfl, rfl, rfl, rfl, rfl, rfl, rfl, rfl, rfl⟩

theorem OnlyLatches.trans {s t u : State} (h : OnlyLatches s t) (k : OnlyLatches t u) : OnlyLatches s u where
  cpu := k.cpu.trans h.cpu
  ram := k.ram.trans h.ram
  antic := k.antic.trans h.antic
  gtia := by have e := k.gtia; rw [h.gtia] at e; exact e
  pokey := by have e := k.pokey; rw [h.pokey] at e; exact e
  pia := by have e := k.pia; rw [h.pia] at e; exact e
  orch := k.orch.trans h.orch
  params := k.params.trans h.params
  collisionPass := k.collisionPass.trans h.collisionPass
  sinks := k.sinks.trans h.sinks

theorem OnlyReads.trans {s t u : State} (h : OnlyReads s t) (k : OnlyReads t u) : OnlyReads s u where
  cpu := k.cpu.trans h.cpu
  ram := k.ram.trans h.ram
  antic := k.antic.trans h.antic
  gtia := by have e := k.gtia; rw [h.gtia] at e; exact e
  pokey := by have e := k.pokey; rw [h.pokey] at e; exact e
  pia := by have e := k.pia; rw [h.pia] at e; exact e
  orch := k.orch.trans h.orch
  params := k.params.trans h.params
  collisionPass := k.collisionPass.trans h.collisionPass
  sinks := k.sinks.trans h.sinks

theorem OnlyLatches.onlyReads {s t : State} (h : OnlyLatches s t) : OnlyReads s t :=
  ⟨h.cpu, h.ram, h.antic, h.gtia, by have e := h.pokey; rw [e], h.pia, h.orch, h.params, h.collisionPass, h.sinks⟩

/-! ## The scan task -/

theorem applyScan_onlyLatches (s : State) (e : ScanEvent) : OnlyLatches s (applyScan s e) := by
  cases e <;> refine ⟨rfl, rfl, rfl, ?_, ?_, ?_, rfl, rfl, rfl, rfl⟩ <;>
    simp only [applyScan, setKey, setJoystick, setTrigger, setConsoleKey, State.setPokey_pokey, State.setGtia_gtia,
      State.setPia_pia, State.setPokey_gtia, State.setPokey_pia, State.setGtia_pia, State.setGtia_pokey,
      State.setPia_gtia, State.setPia_pokey]
  split <;> [split; skip] <;> rfl

theorem scanTick_onlyLatches (s : State) : OnlyLatches s (scanTick s) := by
  have fold : ∀ (l : List ScanEvent) (t : State), OnlyLatches t (l.foldl applyScan t) := by
    intro l
    induction l with
    | nil => exact OnlyLatches.refl
    | cons e l ih => exact fun t => (applyScan_onlyLatches t e).trans (ih _)
  unfold scanTick
  split
  · exact OnlyLatches.refl s
  · rename_i evs rest _
    have k : OnlyLatches s (s.setScan rest) := ⟨rfl, rfl, rfl, rfl, rfl, rfl, rfl, rfl, rfl, rfl⟩
    exact k.trans (fold evs (s.setScan rest))

/-- With nothing scheduled the scan task does nothing. -/
theorem scanTick_quiet {s : State} (h : s.scan = []) : scanTick s = s := by simp only [scanTick, h]

/-- Two updates that commute with one scan-task event commute with all that are due. -/
theorem scanTick_comm (f : State → State) (hs : ∀ t, (f t).scan = t.scan) (hl : ∀ t l, (f t).setScan l = f (t.setScan l))
    (he : ∀ t e, applyScan (f t) e = f (applyScan t e)) (s : State) : scanTick (f s) = f (scanTick s) := by
  have fold : ∀ (l : List ScanEvent) (t : State), l.foldl applyScan (f t) = f (l.foldl applyScan t) := by
    intro l
    induction l with
    | nil => exact fun _ => rfl
    | cons e l ih => intro t; simp only [List.foldl_cons, he, ih]
  unfold scanTick
  rw [hs]
  split
  · rfl
  · rw [hl]; exact fold _ _

theorem scanTick_setCpu (s : State) (c : Cpu) : scanTick (s.setCpu c) = (scanTick s).setCpu c :=
  scanTick_comm (·.setCpu c) (fun _ => rfl) (fun _ _ => rfl) (fun _ e => by cases e <;> rfl) s

theorem scanTick_setRam (s : State) (m : Memory) : scanTick (s.setRam m) = (scanTick s).setRam m :=
  scanTick_comm (·.setRam m) (fun _ => rfl) (fun _ _ => rfl) (fun _ e => by cases e <;> rfl) s

theorem scanTick_setOrch (s : State) (o : Orch) : scanTick (s.setOrch o) = (scanTick s).setOrch o :=
  scanTick_comm (·.setOrch o) (fun _ => rfl) (fun _ _ => rfl) (fun _ e => by cases e <;> rfl) s

theorem scanTick_setAntic (s : State) (a : Antic) : scanTick (s.setAntic a) = (scanTick s).setAntic a :=
  scanTick_comm (·.setAntic a) (fun _ => rfl) (fun _ _ => rfl) (fun _ e => by cases e <;> rfl) s

/-! ## The router -/

/-- The register window in numbers. -/
theorem inIoWindow_iff (a : Word) : inIoWindow a = true ↔ 0xD000 ≤ a.toNat ∧ a.toNat ≤ 0xD7FF := by
  simp only [inIoWindow, Config.ioLo, Config.ioHi, Bool.and_eq_true, decide_eq_true_eq]

/-- Where the self-test code shows, in numbers and bits of port B. -/
theorem showsSelftest_iff (p : Pia) (a : Word) : showsSelftest p a = true ↔
    0x5000 ≤ a.toNat ∧ a.toNat ≤ 0x57FF ∧ p.portbOut.getLsbD 7 = false ∧ p.portbOut.getLsbD 0 = true := by
  simp [showsSelftest, Pia.selftestEn, Pia.osRomEn, Config.selftestLo, Config.selftestHi, Config.portbSelftestBit,
    Config.portbOsBit, Config.selftestNeedsOs, and_assoc]

/-- Where the BASIC image shows, in numbers and bits of port B. -/
theorem showsBasic_iff (p : Pia) (a : Word) : showsBasic p a = true ↔
    0xA000 ≤ a.toNat ∧ a.toNat ≤ 0xBFFF ∧ p.portbOut.getLsbD 1 = false := by
  simp [showsBasic, Pia.basicRomEn, Config.basicLo, Config.basicHi, Config.portbBasicBit, and_assoc]

/-- Where the OS image shows, in numbers and bits of port B. -/
theorem showsOs_iff (p : Pia) (a : Word) : showsOs p a = true ↔
    ((0xC000 ≤ a.toNat ∧ a.toNat ≤ 0xCFFF) ∨ 0xD800 ≤ a.toNat) ∧ p.portbOut.getLsbD 0 = true := by
  have top : a.toNat ≤ 65535 := Nat.le_of_lt_succ a.isLt
  simp [showsOs, Pia.osRomEn, Config.os1Lo, Config.os1Hi, Config.os2Lo, Config.os2Hi, Config.portbOsBit, top]

/-- A chip offset in integers. -/
theorem chipOffset_eq (bits : Nat) (a : Word) : chipOffset bits a = a.toNat % 2 ^ bits := by
  simp [chipOffset]

theorem storeByte_latches {s t : State} (h : OnlyReads s t) (a : Word) : storeByte t a = storeByte s a := by
  have e : ∀ f : Pia → Bool, (∀ p x, f { p with portaIn := x } = f p) → f t.pia = f s.pia := fun f hf => by
    rw [h.pia]; exact hf _ _
  simp only [storeByte, osByte, basicByte, ramByte, h.ram, h.params]
  rw [e (showsSelftest · a) fun _ _ => rfl, e (showsBasic · a) fun _ _ => rfl, e (showsOs · a) fun _ _ => rfl]

theorem ramByte_latches {s t : State} (h : OnlyReads s t) (a : Nat) : ramByte t a = ramByte s a := by
  simp only [ramByte, h.ram]

/-- A router read changes nothing but the noise polynomials. -/
theorem routeRead_onlyReads (a : Word) (s : State) : OnlyReads s (routeRead a s).2 := by
  unfold routeRead ioRead
  split <;> [split <;> [skip; split <;> [skip; split <;> [skip; split]]]; skip]
  all_goals first | exact OnlyReads.refl s | skip
  refine ⟨rfl, rfl, rfl, rfl, ?_, rfl, rfl, rfl, rfl, rfl⟩
  simp only [State.setPokey_pokey, pokeyRead]
  split <;> rfl

/-- A memory read changes nothing but the input latches and the noise polynomials. -/
theorem memRead_onlyReads (a : Word) (s : State) : OnlyReads s (memRead a s).2 :=
  (scanTick_onlyLatches s).onlyReads.trans (routeRead_onlyReads a _)

/-- Outside the register window a read answers the byte of the map, and only the scan task can have changed anything. -/
theorem memRead_store {a : Word} (h : inIoWindow a = false) (s : State) :
    memRead a s = (storeByte s a, scanTick s) := by
  simp only [memRead, routeRead, h, Bool.false_eq_true, if_false,
    storeByte_latches (scanTick_onlyLatches s).onlyReads]

/-- A memory write outside the register window changes one byte of the backing store. -/
theorem memWrite_store {a : Word} (h : inIoWindow a = false) (v : Byte) (s : State) :
    memWrite a v s = writeRam a v (scanTick s) := by
  simp only [memWrite, routeWrite, h, Bool.false_eq_true, if_false]

/-- A memory write inside the register window is a register write. -/
theorem memWrite_window {a : Word} (h : inIoWindow a = true) (v : Byte) (s : State) :
    memWrite a v s = ioWrite a v (scanTick s) := by
  simp only [memWrite, routeWrite, h, if_true]

/-- A register write changes only the four chips. -/
theorem ioWrite_frame (a : Word) (v : Byte) (s : State) :
    ∃ g p i t, ioWrite a v s = { s with gtia := g, pokey := p, pia := i, antic := t } := by
  unfold ioWrite
  split <;> [exact ⟨_, _, _, _, rfl⟩; split <;> [exact ⟨_, _, _, _, rfl⟩; split <;> [exact ⟨_, _, _, _, rfl⟩;
    split <;> exact ⟨_, _, _, _, rfl⟩]]]

/-- A byte of RAM after a write into RAM. -/
theorem ramByte_writeRam {s : State} (h : Memory.wf Config.ramFill Config.ramSize s.ram = true) (a : Word) (v : Byte)
    (b : Nat) : ramByte (writeRam a v s) b = if b = a.toNat then v else ramByte s b :=
  Memory.read_write _ _ _ _ _ _ h

/-- The canonical form of the backing store after a write into RAM. -/
theorem ram_wf_writeRam {s : State} (h : Memory.wf Config.ramFill Config.ramSize s.ram = true) (a : Word) (v : Byte) :
    Memory.wf Config.ramFill Config.ramSize (writeRam a v s).ram = true :=
  Memory.wf_write _ _ _ _ _ a.isLt h

/-- No memory write changes the register file, the orchestrator, the arguments or the sinks. -/
theorem memWrite_frame (a : Word) (v : Byte) (s : State) :
    (memWrite a v s).cpu = s.cpu ∧ (memWrite a v s).orch = s.orch ∧ (memWrite a v s).params = s.params ∧
      (memWrite a v s).sinks = s.sinks ∧ (memWrite a v s).collisionPass = s.collisionPass := by
  have l := scanTick_onlyLatches s
  cases h : inIoWindow a
  · rw [memWrite_store h]; exact ⟨l.cpu, l.orch, l.params, l.sinks, l.collisionPass⟩
  · rw [memWrite_window h]
    obtain ⟨_, _, _, _, e⟩ := ioWrite_frame a v (scanTick s)
    rw [e]; exact ⟨l.cpu, l.orch, l.params, l.sinks, l.collisionPass⟩

/-- A memory write keeps the canonical form of the backing store. -/
theorem ram_wf_memWrite {s : State} (h : Memory.wf Config.ramFill Config.ramSize s.ram = true) (a : Word) (v : Byte) :
    Memory.wf Config.ramFill Config.ramSize (memWrite a v s).ram = true := by
  have l := scanTick_onlyLatches s
  cases hw : inIoWindow a
  · rw [memWrite_store hw]; exact ram_wf_writeRam (by rw [l.ram]; exact h) a v
  · rw [memWrite_window hw]
    obtain ⟨_, _, _, _, e⟩ := ioWrite_frame a v (scanTick s)
    rw [e]; exact l.ram ▸ h

/-! ## Derived primitives -/

theorem read16_onlyReads (a : Word) (s : State) : OnlyReads s (read16 a s).2 :=
  (memRead_onlyReads _ s).trans (memRead_onlyReads _ _)

theorem read16zp_onlyReads (z : Byte) (s : State) : OnlyReads s (read16zp z s).2 :=
  (memRead_onlyReads _ s).trans (memRead_onlyReads _ _)

/-- The computation of an effective address changes nothing but the input latches and the noise polynomials. -/
theorem effAddr_onlyReads (m : MemMode) (s : State) : OnlyReads s (effAddr m s).2 := by
  cases m <;> first | exact OnlyReads.refl s | exact read16zp_onlyReads _ s

/-- Reading a memory operand changes nothing but the input latches and the noise polynomials. -/
theorem operandOf_onlyReads (m : MemMode) (s : State) : OnlyReads s (operandOf m s).2 :=
  (effAddr_onlyReads m s).trans (memRead_onlyReads _ _)

/-- Pages 0 and 1 and the vectors are outside the register window; so is every stack address. -/
theorem stackAddr_outside (sp : Byte) : inIoWindow (stackAddr sp) = false := by
  revert sp; decide

/-- Stack addresses of different stack pointers differ. -/
theorem stackAddr_inj {p q : Byte} (h : stackAddr p = stackAddr q) : p = q := by
  have e := congrArg loByte h
  have low : ∀ x : Byte, loByte (stackAddr x) = x := by decide
  rwa [low, low] at e

/-- Below the self-test window every address is RAM. -/
theorem storeByte_low (s : State) {a : Word} (h : a.toNat < 0x5000) : storeByte s a = ramByte s a.toNat := by
  have off : ∀ lo hi : Nat, 0x5000 ≤ lo → (decide (lo ≤ a.toNat) && decide (a.toNat ≤ hi)) = false := fun lo hi e => by
    rw [decide_eq_false (by omega), Bool.false_and]
  simp only [storeByte, showsSelftest, showsBasic, showsOs, off Config.selftestLo _ (by decide),
    off Config.basicLo _ (by decide), off Config.os1Lo _ (by decide), off Config.os2Lo _ (by decide), Bool.or_self,
    Bool.false_and, Bool.false_eq_true, if_false]

/-- Page 1 is always RAM. -/
theorem storeByte_stack (s : State) (sp : Byte) : storeByte s (stackAddr sp) = ramByte s (stackAddr sp).toNat := by
  have h : ∀ p : Byte, (stackAddr p).toNat < 0x5000 := by decide
  exact storeByte_low s (h sp)

/-- What a push does. -/
theorem push8_spec (v : Byte) (s : State) :
    push8 v s = ((scanTick s).setCpu { s.cpu with sp := s.cpu.sp - 1 }).setRam
      (Memory.write Config.ramFill s.ram (stackAddr s.cpu.sp).toNat v) := by
  have l := scanTick_onlyLatches s
  rw [push8, memWrite_store (stackAddr_outside _)]
  simp only [setSp, writeRam, State.setCpu, State.setRam, l.cpu, l.ram]

/-- What a pull does. -/
theorem pull8_spec (s : State) :
    pull8 s = (ramByte s (stackAddr (s.cpu.sp + 1)).toNat,
      (scanTick s).setCpu { s.cpu with sp := s.cpu.sp + 1 }) := by
  rw [pull8, memRead_store (stackAddr_outside _), storeByte_stack, setSp, scanTick_setCpu]; rfl

/-! ## Shapes of instructions: what a next state of each shape is -/

theorem readInstr_spec (cost pen : Nat) (f : Byte → Cpu → Cpu) (m : MemMode) (s : State) :
    Computes s (operandOf m s).2 (f (operandOf m s).1 s.cpu) (cost + pageCost pen (effAddr m s).1)
      (readInstr cost pen f m s) := by
  have k := operandOf_onlyReads m s
  refine ⟨?_, k⟩
  have e := k.cpu
  have o := k.orch
  simp only [operandOf] at e o ⊢
  simp only [readInstr, charge, State.setCpu, State.setOrch, spent, e, o]

theorem impliedInstr_spec (cost : Nat) (f : Cpu → Cpu) (s : State) :
    Computes s s (f s.cpu) cost (impliedInstr cost f s) := ⟨rfl, OnlyReads.refl s⟩

theorem immInstr_spec (cost : Nat) (f : Byte → Cpu → Cpu) (m : Byte) (s : State) :
    Computes s s (f m s.cpu) cost (immInstr cost f m s) := ⟨rfl, OnlyReads.refl s⟩

theorem accInstr_spec (cost : Nat) (f : Byte → Cpu → Byte × Cpu) (s : State) :
    Computes s s { (f s.cpu.a s.cpu).2 with a := (f s.cpu.a s.cpu).1 } cost (accInstr cost f s) :=
  ⟨rfl, OnlyReads.refl s⟩

/-- A store after reads, with a register file put in before it. -/
theorem stores_spec {s s1 : State} (k : OnlyReads s s1) (h : memoryWf s = true) (addr : Word) (v : Byte) (c : Cpu)
    (cost : Nat) : Stores s s1 addr v c cost (.next (charge cost (memWrite addr v (s1.setCpu c)))) := by
  have hr : Memory.wf Config.ramFill Config.ramSize s.ram = true := by
    simp only [memoryWf, Bool.and_eq_true] at h; exact h.1.1
  have tick : scanTick (s1.setCpu c) = (scanTick s1).setCpu c := scanTick_setCpu s1 c
  have l := (scanTick_onlyLatches s1).onlyReads
  have kl := k.trans l
  refine ⟨k, _, rfl, ?_⟩
  cases hw : inIoWindow addr
  · rw [memWrite_store hw, tick]
    refine ⟨rfl, ?_, ?_, fun _ => ?_, fun e => by simp at e⟩
    · simp only [charge, State.setOrch, spent, writeRam, State.setRam, State.setCpu, kl.orch]
    · intro a
      have e := ramByte_writeRam (s := scanTick s1) (by rw [kl.ram]; exact hr) addr v a
      rw [ramByte_latches kl] at e
      simpa [charge, writeRam, ramByte] using e
    · exact ⟨rfl, rfl, kl.antic, kl.gtia, kl.pokey, kl.pia, rfl, kl.params, kl.collisionPass, kl.sinks⟩
  · rw [memWrite_window hw, tick]
    have io : ioWrite addr v ((scanTick s1).setCpu c) = { ioWrite addr v (scanTick s1) with cpu := c } := by
      unfold ioWrite
      simp only [State.setCpu_gtia, State.setCpu_pokey, State.setCpu_pia, State.setCpu_antic, State.setCpu_params]
      split <;> [rfl; split <;> [rfl; split <;> [rfl; split <;> rfl]]]
    obtain ⟨_, _, _, _, e⟩ := ioWrite_frame addr v (scanTick s1)
    rw [io]
    refine ⟨rfl, ?_, ?_, fun e => by simp at e, fun _ => ?_⟩
    · simp only [charge, State.setOrch, spent, e, kl.orch]
    · intro a
      simp only [Bool.true_eq_false, false_and, if_false, charge, State.setOrch, ramByte, e, kl.ram]
    · simp only [charge, State.setOrch, spent, e, kl.orch]

theorem storeInstr_spec {s : State} (h : memoryWf s = true) (cost : Nat) (v : Byte) (m : MemMode) :
    Stores s (effAddr m s).2 (effAddr m s).1.addr v s.cpu cost (storeInstr cost v m s) := by
  have k := effAddr_onlyReads m s
  have e := stores_spec k h (effAddr m s).1.addr v s.cpu cost
  rw [show (effAddr m s).2.setCpu s.cpu = (effAddr m s).2 by rw [← k.cpu]; rfl] at e
  exact e

theorem rmwInstr_spec {s : State} (h : memoryWf s = true) (cost : Nat) (f : Byte → Cpu → Byte × Cpu) (m : MemMode) :
    Stores s (operandOf m s).2 (effAddr m s).1.addr (f (operandOf m s).1 s.cpu).1 (f (operandOf m s).1 s.cpu).2 cost
      (rmwInstr cost f m s) := by
  have k := operandOf_onlyReads m s
  have e := stores_spec k h (effAddr m s).1.addr (f (operandOf m s).1 s.cpu).1 (f (operandOf m s).1 s.cpu).2 cost
  have c := k.cpu
  simp only [operandOf] at c e ⊢
  simp only [rmwInstr, c]
  exact e

/-- A branch either takes the target or does nothing. -/
theorem branchInstr_spec (cond : Bool) (d : Byte) (s : State) :
    Computes s s (if cond then { s.cpu with pc := s.cpu.pc + sext16 d } else s.cpu)
      (if cond then 3 + (if hiByte (s.cpu.pc + sext16 d) = hiByte s.cpu.pc then 0 else 1) else 2)
      (branchInstr cond d s) := by
  refine ⟨?_, OnlyReads.refl s⟩
  cases cond <;> rfl

end Sys2Proof.Machine
end

