-- ==== Sys2Proof/Laws/Stack.lean ====
section
/-! SUPPORT. Pushes, pulls and the taking of an exception in closed form: a state given by its register file and its RAM. -/

namespace Sys2Proof.Machine

/-- `s` with the register file `c` and the RAM `m`. -/
def put (s : State) (c : Cpu) (m : Memory) : State := (s.setCpu c).setRam m

/-- The RAM after the byte stores `l`, in order. -/
def stored (l : List (Word × Byte)) (m : Memory) : Memory :=
  l.foldl (fun m x => Memory.write Config.ramFill m x.1.toNat x.2) m

theorem put_self (s : State) : put s s.cpu s.ram = s := rfl
@[simp] theorem put_cpu (s : State) (c : Cpu) (m : Memory) : (put s c m).cpu = c := rfl
@[simp] theorem put_ram (s : State) (c : Cpu) (m : Memory) : (put s c m).ram = m := rfl
@[simp] theorem put_params (s : State) (c : Cpu) (m : Memory) : (put s c m).params = s.params := rfl
@[simp] theorem put_orch (s : State) (c : Cpu) (m : Memory) : (put s c m).orch = s.orch := rfl
@[simp] theorem setCpu_put (s : State) (c d : Cpu) (m : Memory) : (put s c m).setCpu d = put s d m := rfl
@[simp] theorem setPc_put (s : State) (c : Cpu) (m : Memory) (w : Word) :
    setPc w (put s c m) = put s { c with pc := w } m := rfl

theorem scanTick_put (s : State) (c : Cpu) (m : Memory) : scanTick (put s c m) = put (scanTick s) c m := by
  rw [put, scanTick_setRam, scanTick_setCpu]; rfl

theorem push8_put (v : Byte) (s : State) (c : Cpu) (m : Memory) :
    push8 v (put s c m) =
      put (scanTick s) { c with sp := c.sp - 1 } (Memory.write Config.ramFill m (stackAddr c.sp).toNat v) := by
  rw [push8_spec, scanTick_put]; rfl

theorem sp_sub_one (p : Byte) : p - 1 - 1 = p - 2 := by revert p; decide
theorem sp_sub_two (p : Byte) : p - 2 - 1 = p - 3 := by revert p; decide
theorem sp_add_one (p : Byte) : p + 1 + 1 = p + 2 := by revert p; decide
theorem sp_add_two (p : Byte) : p + 2 + 1 = p + 3 := by revert p; decide

/-- The stack address in integers (R22). -/
theorem stackAddr_toNat (p : Byte) : (stackAddr p).toNat = 0x0100 + p.toNat := by revert p; decide

theorem push16_put (w : Word) (s : State) (c : Cpu) (m : Memory) :
    push16 w (put s c m) = put (scanTick (scanTick s)) { c with sp := c.sp - 2 }
      (stored [(stackAddr c.sp, hiByte w), (stackAddr (c.sp - 1), loByte w)] m) := by
  rw [push16, push8_put, push8_put]; simp only [sp_sub_one]; rfl

theorem pull8_put (s : State) (c : Cpu) (m : Memory) :
    pull8 (put s c m) = (Memory.read Config.ramFill m (stackAddr (c.sp + 1)).toNat,
      put (scanTick s) { c with sp := c.sp + 1 } m) := by
  rw [pull8_spec, scanTick_put]; rfl

/-- Byte stores at pairwise different addresses: each reads back, every other address is as before. -/
theorem stored_read (l : List (Word × Byte)) : ∀ m : Memory, Memory.wf Config.ramFill Config.ramSize m = true →
    l.Pairwise (fun x y => x.1 ≠ y.1) →
    (∀ w v, (w, v) ∈ l → Memory.read Config.ramFill (stored l m) w.toNat = v) ∧
    (∀ a, (∀ w v, (w, v) ∈ l → a ≠ w.toNat) →
      Memory.read Config.ramFill (stored l m) a = Memory.read Config.ramFill m a) := by
  induction l with
  | nil => intro m _ _; simp [stored]
  | cons x l ih =>
    intro m h hp
    obtain ⟨hx, hp⟩ := List.pairwise_cons.mp hp
    obtain ⟨i1, i2⟩ := ih (Memory.write Config.ramFill m x.1.toNat x.2) (Memory.wf_write _ _ _ _ _ x.1.isLt h) hp
    simp only [stored, List.foldl_cons] at i1 i2 ⊢
    constructor
    · intro w v hm
      rcases List.mem_cons.mp hm with rfl | hm
      · rw [i2 _ fun w' v' h' e => hx _ h' (BitVec.eq_of_toNat_eq e), Memory.read_write _ _ _ _ _ _ h, if_pos rfl]
      · exact i1 w v hm
    · intro a ha
      rw [i2 a fun w v hm => ha w v (List.mem_cons_of_mem _ hm), Memory.read_write _ _ _ _ _ _ h,
        if_neg (ha x.1 x.2 (List.mem_cons_self ..))]

/-- The canonical form after byte stores. -/
theorem wf_stored (l : List (Word × Byte)) : ∀ m : Memory, Memory.wf Config.ramFill Config.ramSize m = true →
    Memory.wf Config.ramFill Config.ramSize (stored l m) = true := by
  induction l with
  | nil => exact fun _ h => h
  | cons x l ih => exact fun m h => ih _ (Memory.wf_write _ _ _ _ _ x.1.isLt h)

theorem ram_wf_of_memoryWf {s : State} (h : memoryWf s = true) :
    Memory.wf Config.ramFill Config.ramSize s.ram = true := by
  simp only [memoryWf, Bool.and_eq_true] at h; exact h.1.1

/-- A next state with a new register file and byte stores at pairwise different addresses. -/
theorem pushes_put {s s1 : State} {l : List (Word × Byte)} (c : Cpu) (cost : Nat) (h : memoryWf s = true)
    (hp : l.Pairwise (fun x y => x.1 ≠ y.1)) (hl : OnlyLatches s s1) :
    Pushes s l c cost (.next (charge cost (put s1 c (stored l s.ram)))) := by
  obtain ⟨i1, i2⟩ := stored_read l s.ram (ram_wf_of_memoryWf h) hp
  refine ⟨_, rfl, rfl, ?_, i1, i2, rfl, rfl, hl.antic, hl.gtia, hl.pokey, hl.pia, rfl, hl.params, hl.collisionPass,
    hl.sinks⟩
  simp only [charge, spent, put, State.setOrch, State.setRam, State.setCpu, hl.orch]

/-- Where nothing was stored, an address outside the register window reads as before. -/
theorem storeByte_put {s u : State} {l : List (Word × Byte)} (c : Cpu) (h : memoryWf s = true) (hu : OnlyLatches s u)
    (hp : l.Pairwise (fun x y => x.1 ≠ y.1)) (a : Word) (ha : ∀ w v, (w, v) ∈ l → a.toNat ≠ w.toNat) :
    storeByte (put u c (stored l s.ram)) a = storeByte s a := by
  have e := (stored_read l s.ram (ram_wf_of_memoryWf h) hp).2 a.toNat ha
  rw [← storeByte_latches hu.onlyReads a]
  show (if showsSelftest u.pia a then osByte u _ else if showsBasic u.pia a then basicByte u _
    else if showsOs u.pia a then osByte u _ else Memory.read Config.ramFill (stored l s.ram) a.toNat) = _
  rw [e, ← hu.ram]; rfl

/-- The three pushes of an exception. -/
def trapPushes (b : Bool) (c : Cpu) : List (Word × Byte) :=
  [(stackAddr c.sp, hiByte c.pc), (stackAddr (c.sp - 1), loByte c.pc), (stackAddr (c.sp - 2), packP b c)]

theorem stackAddr_ne (p : Byte) : stackAddr p ≠ stackAddr (p - 1) ∧ stackAddr p ≠ stackAddr (p - 2) ∧
    stackAddr (p - 1) ≠ stackAddr (p - 2) := by revert p; decide

theorem trapPushes_pairwise (b : Bool) (c : Cpu) : (trapPushes b c).Pairwise (fun x y => x.1 ≠ y.1) := by
  obtain ⟨h1, h2, h3⟩ := stackAddr_ne c.sp
  simp only [trapPushes, List.pairwise_cons, List.mem_cons, List.not_mem_nil, or_false, forall_eq_or_imp, forall_eq,
    false_imp_iff, implies_true, List.Pairwise.nil, and_true]
  exact ⟨⟨h1, h2⟩, h3⟩

theorem trapPushes_page1 (b : Bool) (c : Cpu) (a : Word) (ha : 0x200 ≤ a.toNat) :
    ∀ w v, (w, v) ∈ trapPushes b c → a.toNat ≠ w.toNat := by
  intro w v hv
  have off : ∀ p : Byte, a.toNat ≠ (stackAddr p).toNat := fun p => by rw [stackAddr_toNat]; omega
  simp only [trapPushes, List.mem_cons, Prod.mk.injEq, List.not_mem_nil, or_false] at hv
  rcases hv with hv | hv | hv <;> rw [hv.1] <;> exact off _

/-- Five places where scan-task events may fall. -/
def fiveTicks (s : State) : State := scanTick (scanTick (scanTick (scanTick (scanTick s))))

theorem fiveTicks_onlyLatches (s : State) : OnlyLatches s (fiveTicks s) :=
  ((((scanTick_onlyLatches s).trans (scanTick_onlyLatches _)).trans (scanTick_onlyLatches _)).trans
    (scanTick_onlyLatches _)).trans (scanTick_onlyLatches _)

/-- What taking an exception does (R340). -/
theorem enterTrap_put {s : State} (c : Cpu) (k : Trap) (h : memoryWf s = true) :
    enterTrap k (put s c s.ram) = put (fiveTicks s)
      { c with
        sp := c.sp - 3, b := k.breakBit, i := true
        pc := wordOfBytes (storeByte s k.vector) (storeByte s (k.vector + 1)) }
      (stored (trapPushes k.breakBit c) s.ram) := by
  have l3 := ((scanTick_onlyLatches s).trans (scanTick_onlyLatches _)).trans (scanTick_onlyLatches _)
  have l4 := l3.trans (scanTick_onlyLatches _)
  have outside : inIoWindow k.vector = false ∧ inIoWindow (k.vector + 1) = false := by cases k <;> decide
  have above : 0x200 ≤ k.vector.toNat ∧ 0x200 ≤ (k.vector + 1).toNat := by cases k <;> decide
  have page1 := trapPushes_page1 k.breakBit c
  simp only [enterTrap]
  rw [show (put s c s.ram).setCpu { (put s c s.ram).cpu with b := k.breakBit } = put s { c with b := k.breakBit } s.ram
      from rfl, put_cpu, push16_put, push8_put]
  generalize hm : Memory.write Config.ramFill (stored _ s.ram) _ _ = m
  have em : m = stored (trapPushes k.breakBit c) s.ram := hm.symm
  rw [setCpu_put, read16, memRead_store outside.1, scanTick_put, memRead_store outside.2, scanTick_put]
  rw [em]
  simp only
  rw [storeByte_put _ h l3 (trapPushes_pairwise _ _) _ (page1 _ above.1),
    storeByte_put _ h l4 (trapPushes_pairwise _ _) _ (page1 _ above.2), setPc_put]
  simp only [put_cpu, sp_sub_two]
  rfl

end Sys2Proof.Machine
end

