-- ==== Sys2Proof/Laws/Video.lean ====
section
/-! SUPPORT. What the operations of the video coprocessor's scanline step and of fetching can do, said once. -/

namespace Sys2Proof.Machine

/-- A next state of a continued outcome comes from a next state of its first part. -/
theorem onNext_next {r : Result} {f : State → Result} {u : State} (h : onNext r f = .next u) :
    ∃ t, r = .next t ∧ f t = .next u := by
  cases r with
  | next t => exact ⟨t, rfl, h⟩
  | fault e => cases h
  | refused e => cases h

@[simp] theorem onNext_of_next (t : State) (f : State → Result) : onNext (.next t) f = f t := rfl

/-- A fetch of an instruction byte: the program counter moves by one, otherwise only what a read may change. -/
theorem fetch8_spec (s : State) :
    (fetch8 s).1 = (memRead s.cpu.pc s).1 ∧ (fetch8 s).2.cpu = { s.cpu with pc := s.cpu.pc + 1 } ∧
    OnlyReads s { (fetch8 s).2 with cpu := s.cpu } := by
  have k := memRead_onlyReads s.cpu.pc s
  refine ⟨rfl, ?_, ?_⟩
  · simp only [fetch8, setPc, State.setCpu, k.cpu]
  · exact ⟨rfl, k.ram, k.antic, k.gtia, k.pokey, k.pia, k.orch, k.params, k.collisionPass, k.sinks⟩

/-- A fetch of a display-list byte: the fetch pointer moves by one, one cycle is recorded, otherwise only what a read may
change. -/
theorem dlFetch8_spec (s : State) :
    (dlFetch8 s).1 = (memRead s.antic.dlPc s).1 ∧
    (dlFetch8 s).2.antic = { s.antic with dlPc := s.antic.dlPc + 1, dmaCycles := s.antic.dmaCycles + 1 } ∧
    OnlyReads s { (dlFetch8 s).2 with antic := s.antic } := by
  have k := memRead_onlyReads s.antic.dlPc s
  refine ⟨rfl, ?_, ?_⟩
  · simp only [dlFetch8, State.setAntic, k.antic, Config.dlDmaCost]
  · exact ⟨k.cpu, k.ram, rfl, k.gtia, k.pokey, k.pia, k.orch, k.params, k.collisionPass, k.sinks⟩

/-- Reading a glyph changes only what a read may change. -/
theorem unitColours_onlyReads (r : Renderer) (a : Antic) (k : LineColours) (code : Byte) (s : State) :
    OnlyReads s (unitColours r a k code s).2 := by
  cases r <;> first | exact OnlyReads.refl s | exact memRead_onlyReads _ _

/-- Reading the units of a scanline changes only what reads may change. -/
theorem unitsColours_onlyReads (r : Renderer) (a : Antic) (k : LineColours) (n : Nat) :
    ∀ (i : Nat) (s : State), OnlyReads s (unitsColours r a k n i s).2 := by
  induction n with
  | zero => exact fun _ s => OnlyReads.refl s
  | succ n ih =>
    exact fun i s => (memRead_onlyReads _ s).trans ((unitColours_onlyReads r a k _ _).trans (ih (i + 1) _))

@[simp] theorem backgroundRow_length (bk : Byte) : (backgroundRow bk).length = 384 := List.length_replicate

/-- Content put over a row keeps the row's length. -/
@[simp] theorem overlay_length (row : List Pixel) (x0 : Nat) (content : List Byte) :
    (overlay row x0 content).length = row.length := by
  simp only [overlay, List.length_take, List.length_append, List.length_map, List.length_drop]
  omega

/-- Every mode number from 2 on has an entry of the mode table. -/
theorem modeRow_isSome (m : BitVec 4) (h : 2 ≤ m.toNat) : (modeRow m).isSome = true := by
  revert h; revert m; decide

/-- Drawing a mode line: reads, and then one pixel row of full length. -/
theorem drawModeLine_spec (y : Nat) (k : LineColours) (s : State) (h : 2 ≤ s.antic.curMode.toNat) :
    ∃ (u : State) (row : List Pixel), drawModeLine y k s = putRow y row u ∧ OnlyReads s u ∧ row.length = 384 := by
  obtain ⟨r, hr⟩ := Option.isSome_iff_exists.mp (modeRow_isSome _ h)
  exact ⟨_, overlay (backgroundRow k.bk) (contentOffset s.antic)
      (unitsColours r.renderer s.antic k s.antic.renderUnits 0 s).1,
    by simp only [drawModeLine, hr], unitsColours_onlyReads r.renderer s.antic k s.antic.renderUnits 0 s,
    by rw [overlay_length, backgroundRow_length]⟩

/-- One scanline of the mode line in progress: at most reads, and of the video coprocessor the scan pointer, the row counters
and the pixel buffer. -/
theorem drawLine_spec (y : Nat) (k : LineColours) (s : State) :
    OnlyReads s { drawLine y k s with antic := s.antic } ∧
    (drawLine y k s).antic = { s.antic with
      memscan := (drawLine y k s).antic.memscan, rowInMode := (drawLine y k s).antic.rowInMode
      rowsLeft := s.antic.rowsLeft - 1, fb := (drawLine y k s).antic.fb } := by
  by_cases h0 : s.antic.rowsLeft = 0
  · simp only [drawLine, h0, if_true]
    refine ⟨OnlyReads.refl s, ?_⟩
    conv => lhs; rw [← show { s.antic with rowsLeft := s.antic.rowsLeft } = s.antic from rfl, h0]
  · by_cases h2 : 2 ≤ s.antic.curMode.toNat
    · obtain ⟨u, row, e, hu, _⟩ := drawModeLine_spec y k s h2
      have ha := hu.antic
      have hm : ∀ a : Antic, advanceMemscan a = { a with memscan := (advanceMemscan a).memscan } := by
        intro a; unfold advanceMemscan; split <;> rfl
      simp only [drawLine, h0, h2, if_false, if_true, e, putRow, State.setAntic, advanceRow]
      refine ⟨⟨hu.cpu, hu.ram, rfl, hu.gtia, hu.pokey, hu.pia, hu.orch, hu.params, hu.collisionPass, hu.sinks⟩, ?_⟩
      rw [hm, ha]
    · simp only [drawLine, h0, h2, if_false, State.setAntic, advanceRow]
      exact ⟨⟨rfl, rfl, rfl, rfl, rfl, rfl, rfl, rfl, rfl, rfl⟩, trivial⟩

/-- What the turn of the scanline counter may change of the video coprocessor. -/
theorem nextScanline_frame (a : Antic) :
    nextScanline a = { a with
      wsyncHalt := false, scanline := (nextScanline a).scanline, dlPc := (nextScanline a).dlPc
      dlActive := (nextScanline a).dlActive, rowsLeft := (nextScanline a).rowsLeft
      rowInMode := (nextScanline a).rowInMode, memscan := (nextScanline a).memscan
      pendingVbi := (nextScanline a).pendingVbi, nmist := (nextScanline a).nmist } := by
  unfold nextScanline raiseVbi
  dsimp only
  split <;> [split; skip] <;> rfl

/-! ## The decode of one display-list instruction -/

/-- A display-list opcode has no operand or a two-byte one, and its instruction is a well-formed display-list instruction. -/
theorem decodeDlOpcode_spec (ir : Byte) :
    (∃ i, decodeDlOpcode ir = .one i ∧ i.isDisplayList = true ∧ i.wellFormed = true) ∨
    ∃ f, decodeDlOpcode ir = .three f ∧ ∀ w, (f w).isDisplayList = true ∧ (f w).wellFormed = true := by
  have mode : ∀ m : BitVec 4, m ≠ 0 → m ≠ 1 → modeLineNumber m = true := by decide
  unfold decodeDlOpcode
  dsimp only
  split
  · exact .inl ⟨_, rfl, rfl, rfl⟩
  · split
    · split <;> exact .inr ⟨_, rfl, fun _ => ⟨rfl, rfl⟩⟩
    · rename_i h0 h1
      split
      · exact .inr ⟨_, rfl, fun _ => ⟨rfl, mode _ h0 h1⟩⟩
      · exact .inl ⟨_, rfl, rfl, mode _ h0 h1⟩

/-- Fetching a display-list instruction: it is a well-formed one, the fetch pointer and the recorded cycles move by its one or three
bytes, otherwise only what reads may change. -/
theorem dlFetchInstr_spec (s : State) :
    (dlFetchInstr s).1.isDisplayList = true ∧ (dlFetchInstr s).1.wellFormed = true ∧
    (∃ n, (n = 1 ∨ n = 3) ∧ (dlFetchInstr s).2.antic = { s.antic with
      dlPc := s.antic.dlPc + BitVec.ofNat 16 n, dmaCycles := s.antic.dmaCycles + n }) ∧
    OnlyReads s { (dlFetchInstr s).2 with antic := s.antic } := by
  have b0 := dlFetch8_spec s
  have b1 := dlFetch8_spec (dlFetch8 s).2
  have b2 := dlFetch8_spec (dlFetch8 (dlFetch8 s).2).2
  have chain : ∀ {t u : State}, OnlyReads s { t with antic := s.antic } → OnlyReads t { u with antic := t.antic } →
      OnlyReads s { u with antic := s.antic } := fun a k =>
    a.trans ⟨k.cpu, k.ram, rfl, k.gtia, k.pokey, k.pia, k.orch, k.params, k.collisionPass, k.sinks⟩
  rcases decodeDlOpcode_spec (dlFetch8 s).1 with ⟨i, e, d, w⟩ | ⟨f, e, d⟩
  · simp only [dlFetchInstr, e, readOperand]
    exact ⟨d, w, ⟨1, .inl rfl, b0.2.1⟩, b0.2.2⟩
  · simp only [dlFetchInstr, e, readOperand]
    refine ⟨(d _).1, (d _).2, ⟨3, .inr rfl, ?_⟩, chain (chain b0.2.2 b1.2.2) b2.2.2⟩
    show (dlFetch8 (dlFetch8 (dlFetch8 s).2).2).2.antic = _
    rw [b2.2.1, b1.2.1, b0.2.1]
    simp [BitVec.add_assoc]

/-- The DLI modifier writes only the request and the status bit. -/
theorem dliModifier_frame (a : Antic) :
    dliModifier a = { a with pendingDli := (dliModifier a).pendingDli, nmist := (dliModifier a).nmist } := by
  unfold dliModifier raiseDli
  split <;> [split; skip] <;> rfl

/-- The raise of the vertical-blank interrupt writes only the request and the status bit. -/
theorem raiseVbi_frame (a : Antic) :
    raiseVbi a = { a with pendingVbi := (raiseVbi a).pendingVbi, nmist := (raiseVbi a).nmist } := by
  unfold raiseVbi
  split <;> rfl

/-- The width computation writes only units, offset and stride. -/
theorem putWidth_frame (bytes : Nat) (hs : Bool) (a : Antic) :
    putWidth bytes hs a = { a with
      renderUnits := (putWidth bytes hs a).renderUnits, xOffset := (putWidth bytes hs a).xOffset
      stride := (putWidth bytes hs a).stride } := by
  unfold putWidth
  dsimp only
  split <;> rfl

/-- Every mode line has at least one row. -/
theorem modeRow_spec (m : BitVec 4) (h : 2 ≤ m.toNat) : ∃ r, modeRow m = some r ∧ 1 ≤ r.height := by
  obtain ⟨r, e⟩ := Option.isSome_iff_exists.mp (modeRow_isSome m h)
  refine ⟨r, e, ?_⟩
  revert r h m
  decide

/-- What the video coprocessor may hold after a display-list instruction that ran from `a`: the cycles, the pixels and the registers
are those of `a`; a blank line or a jump leaves the scan pointer; a mode line starts with all its rows before it. -/
structure Decoded (a b : Antic) : Prop where
  dmaCycles : b.dmaCycles = a.dmaCycles
  fb : b.fb = a.fb
  scanline : b.scanline = a.scanline
  dlist : b.dlist = a.dlist
  nmien : b.nmien = a.nmien
  memscan : b.curMode.toNat < 2 → b.memscan = a.memscan
  rows : 2 ≤ b.curMode.toNat → b.rowsLeft = b.modeHeight ∧ 1 ≤ b.modeHeight ∧ b.rowInMode = 0

theorem exec_displayList_spec (i : Instr) (s : State) (h : i.isDisplayList = true) (w : i.wellFormed = true) :
    ∃ b, exec i s = .next (s.setAntic b) ∧ Decoded s.antic b := by
  cases i <;> try (cases h; done)
  case dlBlank =>
    refine ⟨_, rfl, ?_⟩
    rw [dliModifier_frame]
    exact ⟨rfl, rfl, rfl, rfl, rfl, fun _ => rfl, fun k => absurd k (by show ¬ 2 ≤ 0; decide)⟩
  case dlJmp =>
    refine ⟨_, rfl, ?_⟩
    rw [dliModifier_frame]
    exact ⟨rfl, rfl, rfl, rfl, rfl, fun _ => rfl, fun k => absurd k (by show ¬ 2 ≤ 0; decide)⟩
  case dlJvb =>
    refine ⟨_, rfl, ?_⟩
    rw [dliModifier_frame, jumpWait, raiseVbi_frame]
    exact ⟨rfl, rfl, rfl, rfl, rfl, fun _ => rfl, fun k => absurd k (by show ¬ 2 ≤ 0; decide)⟩
  case dlMode dli vs hs m =>
    have hm : 2 ≤ m.toNat := by simpa [Instr.wellFormed, modeLineNumber] using w
    obtain ⟨r, e, k⟩ := modeRow_spec m hm
    refine ⟨_, by show execDlMode dli vs hs m s = _; rw [execDlMode, e], ?_⟩
    rw [dliModifier_frame, modeLine, putWidth_frame]
    exact ⟨rfl, rfl, rfl, rfl, rfl, fun l => absurd l (by show ¬ m.toNat < 2; omega), fun _ => ⟨rfl, k, rfl⟩⟩
  case dlModeLms dli vs hs m addr =>
    have hm : 2 ≤ m.toNat := by simpa [Instr.wellFormed, modeLineNumber] using w
    obtain ⟨r, e, k⟩ := modeRow_spec m hm
    refine ⟨_, by show execDlModeLms dli vs hs m addr s = _; rw [execDlModeLms, e], ?_⟩
    rw [dliModifier_frame, loadMemscan, modeLine, putWidth_frame]
    exact ⟨rfl, rfl, rfl, rfl, rfl, fun l => absurd l (by show ¬ m.toNat < 2; omega), fun _ => ⟨rfl, k, rfl⟩⟩

/-- The decode of one display-list instruction: one or three cycles are recorded, the instruction runs, and outside the video
coprocessor only what reads may change. -/
theorem processDisplayList_spec (s : State) :
    ∃ d n, processDisplayList s = .next d ∧ (n = 1 ∨ n = 3) ∧
      Decoded { s.antic with dmaCycles := s.antic.dmaCycles + n } d.antic ∧ OnlyReads s { d with antic := s.antic } := by
  obtain ⟨h, w, ⟨n, hn, a⟩, r⟩ := dlFetchInstr_spec s
  obtain ⟨b, e, k⟩ := exec_displayList_spec (dlFetchInstr s).1 (dlFetchInstr s).2 h w
  rw [a] at k
  exact ⟨_, n, e, hn, ⟨k.dmaCycles, k.fb, k.scanline, k.dlist, k.nmien, k.memscan, k.rows⟩, r⟩

end Sys2Proof.Machine
end

