-- ==== Sys2Proof/Tests/Slice0.lean ====
section
/-! SUPPORT. Tests of the model against the spec's own examples, and for every statement with hypotheses a state or operands
that meet them. Expected values come from the encoding tables, the worked examples and the vectors of the spec. -/

namespace Sys2Proof.Tests

open Sys2Proof Sys2Proof.Machine

/-! ## Decoding, from the opcode map of R131: every opcode byte with operand bytes 0x12 or 0x34 0x12 -/

/-- R131, row 0x. -/
theorem test_decode_0x : [
    [0x00], [0x01, 0x12], [0x02], [0x03], [0x04], [0x05, 0x12], [0x06, 0x12], [0x07], [0x08], [0x09, 0x12], [0x0A],
    [0x0B], [0x0C], [0x0D, 0x34, 0x12], [0x0E, 0x34, 0x12], [0x0F]].map decode = [
    .ok (.brk, []), .ok (.oraIndx 0x12, []), .ok (.undoc02, []), .ok (.undoc03, []), .ok (.undoc04, []),
    .ok (.oraZp 0x12, []), .ok (.aslZp 0x12, []), .ok (.undoc07, []), .ok (.php, []), .ok (.oraImm 0x12, []),
    .ok (.aslAcc, []), .ok (.undoc0B, []), .ok (.undoc0C, []), .ok (.oraAbs 0x1234, []), .ok (.aslAbs 0x1234, []),
    .ok (.undoc0F, [])] := rfl

/-- R131, row 1x. -/
theorem test_decode_1x : [
    [0x10, 0x12], [0x11, 0x12], [0x12], [0x13], [0x14], [0x15, 0x12], [0x16, 0x12], [0x17], [0x18],
    [0x19, 0x34, 0x12], [0x1A], [0x1B], [0x1C], [0x1D, 0x34, 0x12], [0x1E, 0x34, 0x12], [0x1F]].map decode = [
    .ok (.bpl 0x12, []), .ok (.oraIndy 0x12, []), .ok (.undoc12, []), .ok (.undoc13, []), .ok (.undoc14, []),
    .ok (.oraZpx 0x12, []), .ok (.aslZpx 0x12, []), .ok (.undoc17, []), .ok (.clc, []), .ok (.oraAbsy 0x1234, []),
    .ok (.undoc1A, []), .ok (.undoc1B, []), .ok (.undoc1C, []), .ok (.oraAbsx 0x1234, []), .ok (.aslAbsx 0x1234, []),
    .ok (.undoc1F, [])] := rfl

/-- R131, row 2x. -/
theorem test_decode_2x : [
    [0x20, 0x34, 0x12], [0x21, 0x12], [0x22], [0x23], [0x24, 0x12], [0x25, 0x12], [0x26, 0x12], [0x27], [0x28],
    [0x29, 0x12], [0x2A], [0x2B], [0x2C, 0x34, 0x12], [0x2D, 0x34, 0x12], [0x2E, 0x34, 0x12], [0x2F]].map decode = [
    .ok (.jsr 0x1234, []), .ok (.andIndx 0x12, []), .ok (.undoc22, []), .ok (.undoc23, []), .ok (.bitZp 0x12, []),
    .ok (.andZp 0x12, []), .ok (.rolZp 0x12, []), .ok (.undoc27, []), .ok (.plp, []), .ok (.andImm 0x12, []),
    .ok (.rolAcc, []), .ok (.undoc2B, []), .ok (.bitAbs 0x1234, []), .ok (.andAbs 0x1234, []),
    .ok (.rolAbs 0x1234, []), .ok (.undoc2F, [])] := rfl

/-- R131, row 3x. -/
theorem test_decode_3x : [
    [0x30, 0x12], [0x31, 0x12], [0x32], [0x33], [0x34], [0x35, 0x12], [0x36, 0x12], [0x37], [0x38],
    [0x39, 0x34, 0x12], [0x3A], [0x3B], [0x3C], [0x3D, 0x34, 0x12], [0x3E, 0x34, 0x12], [0x3F]].map decode = [
    .ok (.bmi 0x12, []), .ok (.andIndy 0x12, []), .ok (.undoc32, []), .ok (.undoc33, []), .ok (.undoc34, []),
    .ok (.andZpx 0x12, []), .ok (.rolZpx 0x12, []), .ok (.undoc37, []), .ok (.sec, []), .ok (.andAbsy 0x1234, []),
    .ok (.undoc3A, []), .ok (.undoc3B, []), .ok (.undoc3C, []), .ok (.andAbsx 0x1234, []), .ok (.rolAbsx 0x1234, []),
    .ok (.undoc3F, [])] := rfl

/-- R131, row 4x. -/
theorem test_decode_4x : [
    [0x40], [0x41, 0x12], [0x42], [0x43], [0x44], [0x45, 0x12], [0x46, 0x12], [0x47], [0x48], [0x49, 0x12], [0x4A],
    [0x4B], [0x4C, 0x34, 0x12], [0x4D, 0x34, 0x12], [0x4E, 0x34, 0x12], [0x4F]].map decode = [
    .ok (.rti, []), .ok (.eorIndx 0x12, []), .ok (.undoc42, []), .ok (.undoc43, []), .ok (.undoc44, []),
    .ok (.eorZp 0x12, []), .ok (.lsrZp 0x12, []), .ok (.undoc47, []), .ok (.pha, []), .ok (.eorImm 0x12, []),
    .ok (.lsrAcc, []), .ok (.undoc4B, []), .ok (.jmpAbs 0x1234, []), .ok (.eorAbs 0x1234, []),
    .ok (.lsrAbs 0x1234, []), .ok (.undoc4F, [])] := rfl

/-- R131, row 5x. -/
theorem test_decode_5x : [
    [0x50, 0x12], [0x51, 0x12], [0x52], [0x53], [0x54], [0x55, 0x12], [0x56, 0x12], [0x57], [0x58],
    [0x59, 0x34, 0x12], [0x5A], [0x5B], [0x5C], [0x5D, 0x34, 0x12], [0x5E, 0x34, 0x12], [0x5F]].map decode = [
    .ok (.bvc 0x12, []), .ok (.eorIndy 0x12, []), .ok (.undoc52, []), .ok (.undoc53, []), .ok (.undoc54, []),
    .ok (.eorZpx 0x12, []), .ok (.lsrZpx 0x12, []), .ok (.undoc57, []), .ok (.cli, []), .ok (.eorAbsy 0x1234, []),
    .ok (.undoc5A, []), .ok (.undoc5B, []), .ok (.undoc5C, []), .ok (.eorAbsx 0x1234, []), .ok (.lsrAbsx 0x1234, []),
    .ok (.undoc5F, [])] := rfl

/-- R131, row 6x. -/
theorem test_decode_6x : [
    [0x60], [0x61, 0x12], [0x62], [0x63], [0x64], [0x65, 0x12], [0x66, 0x12], [0x67], [0x68], [0x69, 0x12], [0x6A],
    [0x6B], [0x6C, 0x34, 0x12], [0x6D, 0x34, 0x12], [0x6E, 0x34, 0x12], [0x6F]].map decode = [
    .ok (.rts, []), .ok (.adcIndx 0x12, []), .ok (.undoc62, []), .ok (.undoc63, []), .ok (.undoc64, []),
    .ok (.adcZp 0x12, []), .ok (.rorZp 0x12, []), .ok (.undoc67, []), .ok (.pla, []), .ok (.adcImm 0x12, []),
    .ok (.rorAcc, []), .ok (.undoc6B, []), .ok (.jmpInd 0x1234, []), .ok (.adcAbs 0x1234, []),
    .ok (.rorAbs 0x1234, []), .ok (.undoc6F, [])] := rfl

/-- R131, row 7x. -/
theorem test_decode_7x : [
    [0x70, 0x12], [0x71, 0x12], [0x72], [0x73], [0x74], [0x75, 0x12], [0x76, 0x12], [0x77], [0x78],
    [0x79, 0x34, 0x12], [0x7A], [0x7B], [0x7C], [0x7D, 0x34, 0x12], [0x7E, 0x34, 0x12], [0x7F]].map decode = [
    .ok (.bvs 0x12, []), .ok (.adcIndy 0x12, []), .ok (.undoc72, []), .ok (.undoc73, []), .ok (.undoc74, []),
    .ok (.adcZpx 0x12, []), .ok (.rorZpx 0x12, []), .ok (.undoc77, []), .ok (.sei, []), .ok (.adcAbsy 0x1234, []),
    .ok (.undoc7A, []), .ok (.undoc7B, []), .ok (.undoc7C, []), .ok (.adcAbsx 0x1234, []), .ok (.rorAbsx 0x1234, []),
    .ok (.undoc7F, [])] := rfl

/-- R131, row 8x. -/
theorem test_decode_8x : [
    [0x80], [0x81, 0x12], [0x82], [0x83], [0x84, 0x12], [0x85, 0x12], [0x86, 0x12], [0x87], [0x88], [0x89], [0x8A],
    [0x8B], [0x8C, 0x34, 0x12], [0x8D, 0x34, 0x12], [0x8E, 0x34, 0x12], [0x8F]].map decode = [
    .ok (.undoc80, []), .ok (.staIndx 0x12, []), .ok (.undoc82, []), .ok (.undoc83, []), .ok (.styZp 0x12, []),
    .ok (.staZp 0x12, []), .ok (.stxZp 0x12, []), .ok (.undoc87, []), .ok (.dey, []), .ok (.undoc89, []),
    .ok (.txa, []), .ok (.undoc8B, []), .ok (.styAbs 0x1234, []), .ok (.staAbs 0x1234, []), .ok (.stxAbs 0x1234, []),
    .ok (.undoc8F, [])] := rfl

/-- R131, row 9x. -/
theorem test_decode_9x : [
    [0x90, 0x12], [0x91, 0x12], [0x92], [0x93], [0x94, 0x12], [0x95, 0x12], [0x96, 0x12], [0x97], [0x98],
    [0x99, 0x34, 0x12], [0x9A], [0x9B], [0x9C], [0x9D, 0x34, 0x12], [0x9E], [0x9F]].map decode = [
    .ok (.bcc 0x12, []), .ok (.staIndy 0x12, []), .ok (.undoc92, []), .ok (.undoc93, []), .ok (.styZpx 0x12, []),
    .ok (.staZpx 0x12, []), .ok (.stxZpy 0x12, []), .ok (.undoc97, []), .ok (.tya, []), .ok (.staAbsy 0x1234, []),
    .ok (.txs, []), .ok (.undoc9B, []), .ok (.undoc9C, []), .ok (.staAbsx 0x1234, []), .ok (.undoc9E, []),
    .ok (.undoc9F, [])] := rfl

/-- R131, row Ax. -/
theorem test_decode_Ax : [
    [0xA0, 0x12], [0xA1, 0x12], [0xA2, 0x12], [0xA3], [0xA4, 0x12], [0xA5, 0x12], [0xA6, 0x12], [0xA7], [0xA8],
    [0xA9, 0x12], [0xAA], [0xAB], [0xAC, 0x34, 0x12], [0xAD, 0x34, 0x12], [0xAE, 0x34, 0x12], [0xAF]].map decode = [
    .ok (.ldyImm 0x12, []), .ok (.ldaIndx 0x12, []), .ok (.ldxImm 0x12, []), .ok (.undocA3, []),
    .ok (.ldyZp 0x12, []), .ok (.ldaZp 0x12, []), .ok (.ldxZp 0x12, []), .ok (.undocA7, []), .ok (.tay, []),
    .ok (.ldaImm 0x12, []), .ok (.tax, []), .ok (.undocAB, []), .ok (.ldyAbs 0x1234, []), .ok (.ldaAbs 0x1234, []),
    .ok (.ldxAbs 0x1234, []), .ok (.undocAF, [])] := rfl

/-- R131, row Bx. -/
theorem test_decode_Bx : [
    [0xB0, 0x12], [0xB1, 0x12], [0xB2], [0xB3], [0xB4, 0x12], [0xB5, 0x12], [0xB6, 0x12], [0xB7], [0xB8],
    [0xB9, 0x34, 0x12], [0xBA], [0xBB], [0xBC, 0x34, 0x12], [0xBD, 0x34, 0x12], [0xBE, 0x34, 0x12], [0xBF]].map decode = [
    .ok (.bcs 0x12, []), .ok (.ldaIndy 0x12, []), .ok (.undocB2, []), .ok (.undocB3, []), .ok (.ldyZpx 0x12, []),
    .ok (.ldaZpx 0x12, []), .ok (.ldxZpy 0x12, []), .ok (.undocB7, []), .ok (.clv, []), .ok (.ldaAbsy 0x1234, []),
    .ok (.tsx, []), .ok (.undocBB, []), .ok (.ldyAbsx 0x1234, []), .ok (.ldaAbsx 0x1234, []),
    .ok (.ldxAbsy 0x1234, []), .ok (.undocBF, [])] := rfl

/-- R131, row Cx. -/
theorem test_decode_Cx : [
    [0xC0, 0x12], [0xC1, 0x12], [0xC2], [0xC3], [0xC4, 0x12], [0xC5, 0x12], [0xC6, 0x12], [0xC7], [0xC8],
    [0xC9, 0x12], [0xCA], [0xCB], [0xCC, 0x34, 0x12], [0xCD, 0x34, 0x12], [0xCE, 0x34, 0x12], [0xCF]].map decode = [
    .ok (.cpyImm 0x12, []), .ok (.cmpIndx 0x12, []), .ok (.undocC2, []), .ok (.undocC3, []), .ok (.cpyZp 0x12, []),
    .ok (.cmpZp 0x12, []), .ok (.decZp 0x12, []), .ok (.undocC7, []), .ok (.iny, []), .ok (.cmpImm 0x12, []),
    .ok (.dex, []), .ok (.undocCB, []), .ok (.cpyAbs 0x1234, []), .ok (.cmpAbs 0x1234, []), .ok (.decAbs 0x1234, []),
    .ok (.undocCF, [])] := rfl

/-- R131, row Dx. -/
theorem test_decode_Dx : [
    [0xD0, 0x12], [0xD1, 0x12], [0xD2], [0xD3], [0xD4], [0xD5, 0x12], [0xD6, 0x12], [0xD7], [0xD8],
    [0xD9, 0x34, 0x12], [0xDA], [0xDB], [0xDC], [0xDD, 0x34, 0x12], [0xDE, 0x34, 0x12], [0xDF]].map decode = [
    .ok (.bne 0x12, []), .ok (.cmpIndy 0x12, []), .ok (.undocD2, []), .ok (.undocD3, []), .ok (.undocD4, []),
    .ok (.cmpZpx 0x12, []), .ok (.decZpx 0x12, []), .ok (.undocD7, []), .ok (.cld, []), .ok (.cmpAbsy 0x1234, []),
    .ok (.undocDA, []), .ok (.undocDB, []), .ok (.undocDC, []), .ok (.cmpAbsx 0x1234, []), .ok (.decAbsx 0x1234, []),
    .ok (.undocDF, [])] := rfl

/-- R131, row Ex. -/
theorem test_decode_Ex : [
    [0xE0, 0x12], [0xE1, 0x12], [0xE2], [0xE3], [0xE4, 0x12], [0xE5, 0x12], [0xE6, 0x12], [0xE7], [0xE8],
    [0xE9, 0x12], [0xEA], [0xEB], [0xEC, 0x34, 0x12], [0xED, 0x34, 0x12], [0xEE, 0x34, 0x12], [0xEF]].map decode = [
    .ok (.cpxImm 0x12, []), .ok (.sbcIndx 0x12, []), .ok (.undocE2, []), .ok (.undocE3, []), .ok (.cpxZp 0x12, []),
    .ok (.sbcZp 0x12, []), .ok (.incZp 0x12, []), .ok (.undocE7, []), .ok (.inx, []), .ok (.sbcImm 0x12, []),
    .ok (.nop, []), .ok (.undocEB, []), .ok (.cpxAbs 0x1234, []), .ok (.sbcAbs 0x1234, []), .ok (.incAbs 0x1234, []),
    .ok (.undocEF, [])] := rfl

/-- R131, row Fx. -/
theorem test_decode_Fx : [
    [0xF0, 0x12], [0xF1, 0x12], [0xF2], [0xF3], [0xF4], [0xF5, 0x12], [0xF6, 0x12], [0xF7], [0xF8],
    [0xF9, 0x34, 0x12], [0xFA], [0xFB], [0xFC], [0xFD, 0x34, 0x12], [0xFE, 0x34, 0x12], [0xFF]].map decode = [
    .ok (.beq 0x12, []), .ok (.sbcIndy 0x12, []), .ok (.undocF2, []), .ok (.undocF3, []), .ok (.undocF4, []),
    .ok (.sbcZpx 0x12, []), .ok (.incZpx 0x12, []), .ok (.undocF7, []), .ok (.sed, []), .ok (.sbcAbsy 0x1234, []),
    .ok (.undocFA, []), .ok (.undocFB, []), .ok (.undocFC, []), .ok (.sbcAbsx 0x1234, []), .ok (.incAbsx 0x1234, []),
    .ok (.undocFF, [])] := rfl

/-! ## Decoding of the display list (R301 to R303) -/

/-- The five rows of R303, with every modifier once, words written out bit by bit. -/
theorem test_decode_dl : [
    [0b00000000], [0b11110000], [0b00000001, 0x34, 0x12], [0b10100001, 0x34, 0x12], [0b01010001, 0x34, 0x12],
    [0b00100010], [0b10011111], [0b01000010, 0x00, 0x40], [0b11111111, 0xFF, 0xFF]].map decodeDl = [
    .ok (.dlBlank false 0, []), .ok (.dlBlank true 7, []), .ok (.dlJmp false false false 0x1234, []),
    .ok (.dlJmp true true false 0x1234, []), .ok (.dlJvb false false true 0x1234, []),
    .ok (.dlMode false true false 2, []), .ok (.dlMode true false true 15, []),
    .ok (.dlModeLms false false false 2 0x4000, []), .ok (.dlModeLms true true true 15 0xFFFF, [])] := rfl

/-- An operand that is missing is named as such. -/
theorem test_decode_short : [[], [0xA9], [0x4C, 0x34]].map decode = [
    .error .noOpcode, .error (.missingOperand 0xA9), .error (.missingOperand 0x4C)] := rfl

/-! ## Well-formedness -/

/-- Mode numbers 0 and 1 are refused in both forms, and 2 and 15 are not (R303, R312). -/
theorem test_wellFormed :
    ([.dlMode false false false 0, .dlMode false false false 1, .dlModeLms true true true 0 0, .dlModeLms true true true 1 0,
      .dlMode true true true 2, .dlModeLms false false false 15 0, .brk, .undocFF] : List Instr).map Instr.wellFormed =
    [false, false, false, false, true, true, true, true] := rfl

/-- `exec` refuses an ill-formed mode line by name. -/
theorem test_exec_illFormed :
    exec (.dlMode false false false 0) State.reset = .refused .notAModeLine ∧
    exec (.dlModeLms false false false 1 0x4000) State.reset = .refused .notAModeLine := ⟨rfl, rfl⟩

/-! ## The host's two functions -/

/-- A row of the opcode table by its word: bit 0 is the least significant bit of the first byte. -/
theorem test_decodeTableWord :
    [decodeTableWord 8 0x60, decodeTableWord 16 0x80A9, decodeTableWord 24 0x12348D, decodeTableWord 8 0x8D] =
    [some .rts, some (.ldaImm 0x80), some (.staAbs 0x1234), some (.staAbs 0)] := rfl

/-- `withFetchWord` makes the next step run the instruction: LDX #$7F. -/
theorem test_withFetchWord :
    (match step (State.reset.withFetchWord 16 0x7FA2) with | .next t => some (t.cpu.x, t.cpu.pc) | _ => none) =
    some (0x7F, 0x0602) := by decide +kernel

/-! ## One step on small states: examples and vectors of the spec -/

/-- `bytes` at 0x0600 with `PC` there, the OS image switched off so that the vectors are RAM words. -/
def placed (bytes : List Byte) (c : Cpu) (l : List (Word × Byte)) : State :=
  let s := { State.reset with cpu := { c with pc := 0x0600 }, pia := { Pia.reset with portbOut := 0xFE } }
  l.foldl (fun t x => loaderWrite x.1 x.2 t) (loadBytes 0x0600 bytes s)

/-- All registers and flags 0 but `SP`. -/
def zeroCpu : Cpu := ⟨0, 0, 0, 0xFF, 0, false, false, false, false, false, false, false⟩

/-- What `f` sees after one step. -/
def seen {α : Type} (s : State) (f : State → α) : Option α :=
  match step s with
  | .next t => some (f t)
  | _ => none

/-- V5: the pointer wraps inside page 0. -/
theorem test_lda_indx :
    seen (placed [0xA1, 0xFA] { zeroCpu with x := 0x05 }
        [(0xFF, 0x34), (0x00, 0x12), (0x0100, 0x99), (0x1234, 0xEE)])
      (fun t => (t.cpu.a, t.cpu.n, t.cpu.z, t.orch.lineCycles)) = some (0xEE, true, false, 6) := by decide +kernel

/-- V4: the indexed address wraps at 16 bits and costs a cycle. -/
theorem test_lda_absy :
    seen (placed [0xB9, 0xFF, 0xFF] { zeroCpu with y := 1 } [(0x0000, 0x44)])
      (fun t => (t.cpu.a, t.orch.lineCycles, t.cpu.pc)) = some (0x44, 5, 0x0603) := by decide +kernel

/-- V10: a store costs the same with and without a page crossing and sets no flag. -/
theorem test_sta_absx :
    seen (placed [0x9D, 0xFF, 0x12] { zeroCpu with a := 0x77, x := 1, n := true, z := true } [])
      (fun t => (ramByte t 0x1300, t.cpu.n, t.cpu.z, t.orch.lineCycles)) = some (0x77, true, true, 5) := by decide +kernel

/-- R191: the stack pointer wraps from 0x00 to 0xFF. -/
theorem test_pha_wrap :
    seen (placed [0x48] { zeroCpu with a := 0x42, sp := 0 } []) (fun t => (ramByte t 0x0100, t.cpu.sp)) =
    some (0x42, 0xFF) := by decide +kernel

/-- R192: PHP pushes bits 5 and 4 set and leaves flag B alone. -/
theorem test_php :
    seen (placed [0x08] { zeroCpu with n := true, i := true, c := true } [])
      (fun t => (ramByte t 0x01FF, t.cpu.sp, t.cpu.b)) = some (0xB5, 0xFE, false) := by decide +kernel

/-- R194: PLP takes every flag from its bit. -/
theorem test_plp :
    seen (placed [0x28] { zeroCpu with sp := 0xFE } [(0x01FF, 0xFF)])
      (fun t => ([t.cpu.n, t.cpu.v, t.cpu.b, t.cpu.d, t.cpu.i, t.cpu.z, t.cpu.c], t.cpu.sp)) =
    some ([true, true, true, true, true, true, true], 0xFF) := by decide +kernel

/-- R202: signed overflow of 0x50 + 0x50. -/
theorem test_adc :
    seen (placed [0x69, 0x50] { zeroCpu with a := 0x50 } [])
      (fun t => (t.cpu.a, t.cpu.n, t.cpu.v, t.cpu.z, t.cpu.c)) = some (0xA0, true, true, false, false) := by decide +kernel

/-- R204: 99 + 1 in decimal, with the flags of the binary and of the half-adjusted sum. -/
theorem test_adc_decimal :
    seen (placed [0x69, 0x01] { zeroCpu with a := 0x99, d := true } [])
      (fun t => (t.cpu.a, t.cpu.z, t.cpu.c)) = some (0x00, false, true) := by decide +kernel

/-- R207: 12 - 21 in decimal. -/
theorem test_sbc_decimal :
    seen (placed [0xE9, 0x21] { zeroCpu with a := 0x12, c := true, d := true } [])
      (fun t => (t.cpu.a, t.cpu.n, t.cpu.v, t.cpu.z, t.cpu.c)) = some (0x91, true, false, false, false) := by decide +kernel

/-- R209: the compare of 0x40 with 0x41. -/
theorem test_cmp :
    seen (placed [0xC9, 0x41] { zeroCpu with a := 0x40 } []) (fun t => (t.cpu.a, t.cpu.n, t.cpu.z, t.cpu.c)) =
    some (0x40, true, false, false) := by decide +kernel

/-- R212: 0xFF becomes 0x00, C and V stay. -/
theorem test_inc :
    seen (placed [0xE6, 0x40] { zeroCpu with c := true, v := true } [(0x40, 0xFF)])
      (fun t => (ramByte t 0x40, t.cpu.n, t.cpu.z, t.cpu.c, t.cpu.v, t.orch.lineCycles)) =
    some (0, false, true, true, true, 5) := by decide +kernel

/-- R234: BIT copies bits 7 and 6 of the operand. -/
theorem test_bit :
    seen (placed [0x24, 0x20] { zeroCpu with a := 1 } [(0x20, 0xC0)]) (fun t => (t.cpu.a, t.cpu.n, t.cpu.v, t.cpu.z)) =
    some (1, true, true, true) := by decide +kernel

/-- R237: the old carry enters bit 0, old bit 7 leaves into the carry. -/
theorem test_rol :
    seen (placed [0x2A] { zeroCpu with a := 0x80, c := true } []) (fun t => (t.cpu.a, t.cpu.c, t.cpu.n, t.cpu.z)) =
    some (1, true, false, false) := by decide +kernel

/-- R252: a taken branch 128 bytes back into another page. -/
theorem test_bcs :
    seen (placed [0xB0, 0x80] { zeroCpu with c := true } []) (fun t => (t.cpu.pc, t.orch.lineCycles)) =
    some (0x0582, 4) := by decide +kernel

/-- R261: the pointer's high byte comes from the same page. -/
theorem test_jmp_ind :
    seen (placed [0x6C, 0xFF, 0x02] zeroCpu [(0x02FF, 0x00), (0x0200, 0x40), (0x0300, 0x50)])
      (fun t => (t.cpu.pc, t.orch.lineCycles)) = some (0x4000, 5) := by decide +kernel

/-- R262: the pushed value is the address of the last byte of the JSR. -/
theorem test_jsr :
    seen (placed [0x20, 0x00, 0x20] zeroCpu [])
      (fun t => (t.cpu.pc, t.cpu.sp, ramByte t 0x01FF, ramByte t 0x01FE)) =
    some (0x2000, 0xFD, 0x06, 0x02) := by decide +kernel

/-- R281: return address 0x0602, status 0b00110011, vector 0x3000. -/
theorem test_brk :
    seen (placed [0x00, 0xEA] { zeroCpu with z := true, c := true } [(0xFFFE, 0x00), (0xFFFF, 0x30)])
      (fun t => (t.cpu.pc, [ramByte t 0x01FF, ramByte t 0x01FE, ramByte t 0x01FD, t.cpu.sp], t.cpu.i, t.cpu.b,
        t.orch.lineCycles)) = some (0x3000, [0x06, 0x02, 0x33, 0xFC], true, true, 7) := by decide +kernel

/-- R282: RTI with the status 0x33. -/
theorem test_rti :
    seen (placed [0x40] { zeroCpu with sp := 0xFC, i := true } [(0x01FD, 0x33), (0x01FE, 0x02), (0x01FF, 0x06)])
      (fun t => (t.cpu.pc, t.cpu.sp, [t.cpu.b, t.cpu.i, t.cpu.z, t.cpu.c], t.orch.lineCycles)) =
    some (0x0602, 0xFF, [true, false, true, true], 6) := by decide +kernel

/-- V108: a request is entered although I is set; the pushed status is 0xB5. -/
theorem test_nmi :
    seen ((placed [0xEA] { zeroCpu with i := true, c := true, n := true } [(0xFFFB, 0x40)]).setAntic
        { Antic.reset with pendingVbi := true })
      (fun t => (t.cpu.pc, ramByte t 0x01FD, t.orch.nmiInService, t.antic.pendingVbi, t.orch.lineCycles)) =
    some (0x4000, 0xB5, true, false, 9) := by decide +kernel

/-- V111: the keyboard interrupt is entered with B clear and stays pending. -/
theorem test_irq :
    seen ((placed [0xEA] zeroCpu [(0xFFFF, 0x50)]).setPokey { Pokey.reset with irqen := 0x40, irqst := 0xBF })
      (fun t => (t.cpu.pc, ramByte t 0x01FD, t.cpu.i, t.pokey.irqst)) = some (0x5000, 0x20, true, 0xBF) := by
  decide +kernel

/-- V155: a read-modify-write of `RANDOM` reads once and its write is ignored. -/
theorem test_inc_random :
    seen (placed [0xEE, 0x0A, 0xD2] zeroCpu []) (fun t => (t.cpu.n, t.pokey.poly17)) = some (true, 0x0FFFF) := by
  decide +kernel

/-- V157: an indexed store reaches `WSYNC`. -/
theorem test_wsync :
    seen (placed [0x9D, 0x00, 0xD4] { zeroCpu with x := 0x0A } []) (fun t => (t.antic.wsyncHalt, mayRun t)) =
    some (true, false) := by decide +kernel

/-- T7, variant B, row 1: the glyph byte 0x3C in the two text colours. -/
theorem test_glyph_row :
    (unitsColours .t2 { Antic.reset with chbase := 0x20, memscan := 0x4000, modeHeight := 8, rowInMode := 1 }
      ⟨0x26, 0, 0x0E, 0x94, 0⟩ 1 0 (placed [] zeroCpu [(0x4000, 0x21), (0x2109, 0x3C)])).1 =
    [0x94, 0x94, 0x9E, 0x9E, 0x9E, 0x9E, 0x94, 0x94] := by decide +kernel

/-- V169: in a narrow playfield a mode 2 line reads 32 characters and advances by 32. -/
theorem test_mode_narrow :
    (match exec (.dlMode false false false 2) (State.reset.setAntic { Antic.reset with dmactl := 0x21 }) with
      | .next t => some (t.antic.renderUnits, t.antic.stride, t.antic.rowsLeft)
      | _ => none) = some (32, 32, 8) := by decide +kernel

/-- R305: `ir = 0x90` is two blank lines and the display-list interrupt, if enabled. -/
theorem test_blank_dli :
    (match exec (.dlBlank true 1) (State.reset.setAntic { Antic.reset with nmien := 0x80 }) with
      | .next t => some (t.antic.rowsLeft, t.antic.pendingDli, t.antic.nmist)
      | _ => none) = some (2, true, 0x9F) := by decide +kernel

/-- R468: `AUDF` 0x1F on the 64 kHz clock is 22 samples per half wave. -/
theorem test_period : (pokeyWrite 44100 0 0x1F Pokey.reset).period.q0 = 22 := by decide +kernel

/-- The reset vector through the router is where reset leaves PC (R541, R550). -/
theorem test_reset_pc : (read16 Config.vecReset State.reset).1 = State.reset.cpu.pc := by decide +kernel

/-! ## Witnesses: the hypotheses of the statements can be met -/

/-- A state with any WSYNC halt and scanline: the loop condition fails. -/
def halted (n : Nat) : State := State.reset.setAntic { Antic.reset with wsyncHalt := true, scanline := n }

/-- A state in a mode line: display-list DMA on, `rows` rows left of mode `m`. -/
def inMode (n rows : Nat) (m : BitVec 4) (char : Bool) : State :=
  State.reset.setAntic { Antic.reset with
    dmactl := 0x22, scanline := n, rowsLeft := rows, curMode := m, isChar := char, modeHeight := 8, stride := 40 }

/-- A state at scanline `n` that is about to decode the display list `bytes`, which stands at address 0. -/
def decoding (n : Nat) (bytes : List Byte) : State := loadBytes 0 bytes (inMode n 0 0 false)

/-- The mode that the decode on the scanline of `s` leaves, if an instruction is decoded there. -/
def decodedMode (s : State) : Option Nat :=
  let a := s.antic
  if a.scanline < 8 || 248 ≤ a.scanline || a.idle || a.rowsLeft != 0 || !a.dlActive then none
  else
    match processDisplayList (collisionPass
        (putRow (a.scanline - 8) (List.replicate 384 (Config.palette s.gtia.colbk)) s)) with
    | .next d => some d.antic.curMode.toNat
    | _ => none

theorem witness_memoryForm : memoryWf State.reset = true := rfl

theorem witness_DecodeOfEncode :
    Instr.wellFormed (.dlMode true true true 2) = true ∧ Instr.wellFormed (.dlModeLms true false true 15 0xFFFF) = true ∧
    Instr.wellFormed .brk = true := ⟨rfl, rfl, rfl⟩

theorem witness_EncodeOfDecode :
    decode [0xFF, 0x01] = .ok (.undocFF, [0x01]) ∧ decodeDl [0xFF, 0x01, 0x02] = .ok (.dlModeLms true true true 15 0x0201, []) :=
  ⟨rfl, rfl⟩

theorem witness_ReadsHaveNoEffect :
    selectsRandom 0xD20A = true ∧ selectsRandom 0xD2FA = true ∧ selectsRandom 0xD20B = false ∧ State.reset.scan = [] :=
  ⟨rfl, rfl, rfl, rfl⟩

/-- Both ends of the register window and the addresses next to them. -/
theorem witness_WriteMap :
    memoryWf State.reset = true ∧ inIoWindow 0xCFFF = false ∧ inIoWindow 0xD000 = true ∧ inIoWindow 0xD7FF = true ∧
    inIoWindow 0xD800 = false := ⟨rfl, rfl, rfl, rfl, rfl⟩

/-- At the edge of the window, with the OS image showing and not showing. -/
theorem witness_ReadAfterWrite :
    memoryWf State.reset = true ∧ inIoWindow 0xD800 = false ∧ showsOs State.reset.pia 0xD800 = true ∧
    (showsSelftest { Pia.reset with portbOut := 0xFE } 0xD800 || showsBasic { Pia.reset with portbOut := 0xFE } 0xD800 ||
      showsOs { Pia.reset with portbOut := 0xFE } 0xD800) = false := ⟨rfl, rfl, rfl, rfl⟩

/-- First and last address of a page for each clause. -/
theorem witness_RegisterWindow :
    (0xD0FF#16).toNat / 256 = 0xD0 ∧ (0xD200#16).toNat / 256 = 0xD2 ∧ (0xD3FF#16).toNat / 256 = 0xD3 ∧
    (0xD400#16).toNat / 256 = 0xD4 ∧ (0xD1FF#16).toNat / 256 ∈ [0xD1, 0xD5, 0xD6, 0xD7] ∧
    (0xD7FF#16).toNat / 256 ∈ [0xD1, 0xD5, 0xD6, 0xD7] := by decide

theorem witness_DecimalAddition :
    (0x99#8).toNat % 16 ≤ 9 ∧ (0x99#8).toNat / 16 ≤ 9 ∧ (0x00#8).toNat % 16 ≤ 9 ∧ (0x00#8).toNat / 16 ≤ 9 := by decide

theorem witness_DecimalSubtraction :
    (0x09#8).toNat % 16 ≤ 9 ∧ (0x09#8).toNat / 16 ≤ 9 ∧ (0x90#8).toNat % 16 ≤ 9 ∧ (0x90#8).toNat / 16 ≤ 9 := by decide

/-- STA below, inside and above the register window. -/
theorem witness_StoresCompleteWithOneByte :
    memoryWf State.reset = true ∧
    [0xCFFF#16, 0xD000#16, 0xD7FF#16, 0xD800#16].map (fun w => inIoWindow (effAddr (.abs w) State.reset).1.addr) =
      [false, true, true, false] := ⟨rfl, rfl⟩

theorem witness_PushesComplete : memoryWf (State.reset.setCpu { resetCpu with sp := 0 }) = true := rfl

theorem witness_IncrementDecrementMemory :
    memoryWf State.reset = true ∧ inIoWindow (effAddr (.abs 0xD01A) State.reset).1.addr = true ∧
    inIoWindow (effAddr (.zp 0xFF) State.reset).1.addr = false := ⟨rfl, rfl, rfl⟩

theorem witness_ShiftsComplete :
    memoryWf State.reset = true ∧ inIoWindow (effAddr (.absx 0xD7FF) State.reset).1.addr = true ∧
    inIoWindow (effAddr (.absx 0xD800) State.reset).1.addr = false := ⟨rfl, rfl, rfl⟩

theorem witness_SubroutinesComplete :
    memoryWf State.reset = true ∧
    ∃ t u, exec (.jsr 0x2000) State.reset = .next t ∧ exec .rts t = .next u := ⟨rfl, _, _, rfl, rfl⟩

theorem witness_BreakCompletes : memoryWf (State.reset.setCpu { resetCpu with sp := 0x01 }) = true := rfl

/-- Two members of the table, and an address no write can reach. -/
theorem witness_UndocumentedOpcodesComplete :
    ((0x02, .undoc02) : Byte × Instr) ∈ undocTable ∧ ((0xFF, .undocFF) : Byte × Instr) ∈ undocTable ∧
    memoryWf State.reset = true ∧ ∀ l : List (Word × Byte), ∀ x ∈ l, x.1.toNat ≠ 65536 := by
  refine ⟨List.mem_append_left _ (List.mem_append_left _ (List.mem_cons_self ..)),
    List.mem_append_right _ (by decide +kernel), rfl, fun l x _ => ?_⟩
  have := x.1.isLt
  omega

/-- The first and the last row of the table, each with the widths 1, 2 and 3. -/
theorem witness_ModeLinesComplete :
    ((2#4).toNat, 8, true, 40) ∈ [(2, 8, true, 40), (3, 10, true, 40), (4, 8, true, 40), (5, 16, true, 40),
      (6, 8, true, 20), (7, 16, true, 20), (8, 8, false, 10), (9, 4, false, 10), (10, 4, false, 20), (11, 2, false, 20),
      (12, 1, false, 20), (13, 2, false, 40), (14, 1, false, 40), (15, 1, false, 40)] ∧
    ((15#4).toNat, 1, false, 40) ∈ [(2, 8, true, 40), (3, 10, true, 40), (4, 8, true, 40), (5, 16, true, 40),
      (6, 8, true, 20), (7, 16, true, 20), (8, 8, false, 10), (9, 4, false, 10), (10, 4, false, 20), (11, 2, false, 20),
      (12, 1, false, 20), (13, 2, false, 40), (14, 1, false, 40), (15, 1, false, 40)] ∧
    ∀ w ∈ [1#8, 2#8, 3#8], w.getLsbD 0 = true ∨ w.getLsbD 1 = true := by decide

theorem witness_ModeLinesWithoutWidth :
    modeLineNumber 2 = true ∧ modeLineNumber 15 = true ∧ State.reset.antic.dmactl.getLsbD 0 = false ∧
    State.reset.antic.dmactl.getLsbD 1 = false ∧
    Instr.dlMode false false false 2 ∈ [Instr.dlMode false false false 2, Instr.dlModeLms false false false 2 0] :=
  ⟨rfl, rfl, rfl, rfl, List.mem_cons_self ..⟩

/-- `dl_pc` at the last address whose three bytes lie below the window, and at one where they wrap. -/
theorem witness_DisplayListFetch :
    State.reset.scan = [] ∧ (∀ k, k < 3 → inIoWindow (0xCFFD#16 + BitVec.ofNat 16 k) = false) ∧
    ∀ k, k < 3 → inIoWindow (0xFFFF#16 + BitVec.ofNat 16 k) = false := ⟨rfl, by decide, by decide⟩

theorem witness_ExceptionEntry : memoryWf (State.reset.setCpu { resetCpu with sp := 0x01 }) = true := rfl

/-- A request with no NMI in service; with one in service and an IRQ; none at all. -/
theorem witness_InterruptCheck :
    (let s := scanTick (State.reset.setAntic { Antic.reset with pendingDli := true })
     (s.antic.pendingDli || s.antic.pendingVbi) = true ∧ s.orch.nmiInService = false) ∧
    (let s := scanTick ((((State.reset.setAntic { Antic.reset with pendingVbi := true }).setOrch
        { Orch.reset with nmiInService := true }).setPokey { Pokey.reset with irqen := 0x40, irqst := 0xBF }).setCpu zeroCpu)
     s.orch.nmiInService = true ∧ s.cpu.i = false ∧ irqPending s.pokey = true) ∧
    (let s := scanTick State.reset
     (s.antic.pendingDli || s.antic.pendingVbi) = false ∧ s.cpu.i = true) := by decide +kernel

/-- With nothing pending and with the keyboard pending. -/
theorem witness_IrqRequestIsStatus :
    irqLegal Pokey.reset ∧ irqLegal { Pokey.reset with irqen := 0x40, irqst := 0xBF } :=
  ⟨⟨by decide, by decide⟩, ⟨by decide, by decide⟩⟩

/-- RTI with the parameter true and the latch set; another instruction. -/
theorem witness_InstructionsLeaveNmiLatch :
    (∃ t, exec .nop State.reset = .next t) ∧
    ∃ t, exec .rti { State.reset with
      orch := { Orch.reset with nmiInService := true }, params := { Params.default with nmiLatchClearOnRti := true } } =
        .next t := ⟨⟨_, rfl⟩, ⟨_, rfl⟩⟩

/-- An instruction that wraps from 0xFFFF to 0x0000, and one that ends right below the window. -/
theorem witness_StepRunsDecoded :
    mayRun State.reset = true ∧ State.reset.scan = [] ∧
    (∀ k, k < 3 → inIoWindow (State.reset.cpu.pc + BitVec.ofNat 16 k) = false) ∧
    decode [storeByte State.reset State.reset.cpu.pc, storeByte State.reset (State.reset.cpu.pc + 1),
      storeByte State.reset (State.reset.cpu.pc + 2)] = .ok (.undocFF, [0x00, 0x00]) ∧
    ∀ k, k < 3 → inIoWindow (0xCFFD#16 + BitVec.ofNat 16 k) = false := ⟨rfl, rfl, by decide, rfl, by decide⟩

theorem witness_StepFetchesAnywhere : mayRun (State.reset.setCpu { resetCpu with pc := 0xD20A }) = true := rfl

/-- A CPU step of a legal state, and a scanline turn. -/
theorem witness_StepKeepsMemoryForm :
    memoryWf (placed [0xEA] zeroCpu []) = true ∧ (∃ t, step (placed [0xEA] zeroCpu []) = .next t) ∧
    memoryWf (halted 311) = true ∧ ∃ t, step (halted 311) = .next t := ⟨rfl, ⟨_, rfl⟩, rfl, ⟨_, rfl⟩⟩

theorem chipsLegal_reset : ChipsLegal State.reset where
  antic := ⟨by decide, by decide, rfl⟩
  collisions := by
    intro i h
    have : i = 0 ∨ i = 1 ∨ i = 2 ∨ i = 3 := by omega
    rcases this with rfl | rfl | rfl | rfl <;> exact ⟨by decide, by decide, by decide, by decide⟩
  noise := by
    refine ⟨by decide, by decide, by decide, by decide, fun i h => ?_⟩
    have : i = 0 ∨ i = 1 ∨ i = 2 ∨ i = 3 := by omega
    rcases this with rfl | rfl | rfl | rfl <;> decide
  irq := ⟨by decide, by decide⟩
  control := ⟨by decide, by decide⟩

/-- A legal state on the last scanline of a frame. -/
theorem witness_StepKeepsChipsLegal : ChipsLegal (halted 311) ∧ ∃ t, step (halted 311) = .next t :=
  ⟨⟨⟨by decide, by decide, rfl⟩, chipsLegal_reset.collisions, chipsLegal_reset.noise, chipsLegal_reset.irq,
    chipsLegal_reset.control⟩, _, rfl⟩

theorem witness_StepKeepsArguments : ∃ t, step (placed [0xEA] zeroCpu []) = .next t := ⟨_, rfl⟩

theorem witness_HostActions : memoryWf (placed [0xEA] zeroCpu []) = true ∧ (placed [0xEA] zeroCpu []).scan = [] := ⟨rfl, rfl⟩

/-- The first scanline, the last but one and the last. -/
theorem witness_ScanlineTurn :
    [0, 310, 311].map (fun n => (mayRun (halted n), decide ((halted n).antic.scanline < 312))) =
    [(false, true), (false, true), (false, true)] := rfl

/-- R511: the turn that decodes costs the next scanline 1 cycle for BLANK 1 and 3 for JMP; a turn in a blank line nothing. -/
theorem test_turn_budget :
    [decoding 8 [0x00], decoding 8 [0x01, 0x00, 0x30], inMode 8 2 0 false].map (fun s =>
      seen (s.setAntic { s.antic with wsyncHalt := true }) (·.orch.budget)) = [some 113, some 111, some 114] := by
  decide +kernel

theorem witness_WsyncHaltsTheLine :
    (0xD40A#16).toNat / 256 = 0xD4 ∧ (0xD4FA#16).toNat % 16 = 0xA ∧ (0xD4FA#16).toNat / 256 = 0xD4 ∧
    (0xD40A#16).toNat % 16 = 0xA ∧ ∃ t, step (memWrite 0xD40A 0 State.reset) = .next t :=
  ⟨rfl, rfl, rfl, rfl, _, rfl⟩

/-- Blank lines on the first visible scanline, the wait on the last; DMA off, and the scanlines next to the window. -/
theorem witness_BackgroundScanlines :
    ((inMode 8 1 0 false).antic.idle = false ∧ (inMode 8 1 0 false).antic.rowsLeft ≠ 0 ∧
      (inMode 8 1 0 false).antic.curMode.toNat < 2) ∧
    (let a := { (inMode 247 0 2 false).antic with dlActive := false }
     a.idle = false ∧ a.scanline < 248 ∧ a.rowsLeft = 0 ∧ a.dlActive = false) ∧
    State.reset.antic.idle = true ∧ (inMode 7 1 2 true).antic.scanline < 8 ∧ 248 ≤ (inMode 248 1 2 true).antic.scanline := by
  decide +kernel

/-- The decode scanline: BLANK 1 on the first visible scanline, JMP on the last, JVB and BLANK 8 between. -/
theorem witness_BackgroundScanlines_decode :
    [decoding 8 [0x00], decoding 247 [0x01, 0x00, 0x30], decoding 9 [0x41, 0x00, 0x30], decoding 100 [0x70]].map
      decodedMode = [some 0, some 0, some 0, some 0] := by decide +kernel

/-- The decode scanline of the one-row modes and of a character mode with LMS, at both ends of the window. -/
theorem witness_ModeLineScanlines_decode :
    [decoding 8 [0x0C], decoding 247 [0x0E], decoding 8 [0x0F], decoding 247 [0x42, 0x00, 0x40]].map decodedMode =
      [some 12, some 14, some 15, some 2] := by decide +kernel

/-- The last row of a character line, a row before it, and a bitmap line, at both ends of the window. -/
theorem witness_ModeLineScanlines :
    ∀ s ∈ [inMode 8 1 2 true, inMode 247 2 2 true, inMode 247 1 15 false],
      8 ≤ s.antic.scanline ∧ s.antic.scanline < 248 ∧ s.antic.idle = false ∧ s.antic.rowsLeft ≠ 0 ∧
      2 ≤ s.antic.curMode.toNat := by decide +kernel

theorem witness_CollisionsAccumulate :
    (({ Gtia.reset .default with mpl := ⟨0, 0, 0, 0x08⟩ } : Gtia).mpl.get 3).getLsbD 3 = true ∧ (0 : Nat) < 4 ∧ (0x1F : Nat) ≠ 0x1E := by
  decide

/-- A key held down, and one that is not. -/
theorem witness_InputLatches :
    (({ Pokey.reset with keyDown := true, kbcode := 0x21 } : Pokey).keyDown = true ∧
      ({ Pokey.reset with keyDown := true, kbcode := 0x21 } : Pokey).kbcode = 0x21) ∧ Pokey.reset.keyDown = false ∧
    (3 : Nat) < 4 ∧ (2 : Nat) < 3 := by decide

theorem witness_AdapterPorts :
    Pia.reset.pactl.getLsbD 2 = false ∧ Pia.reset.pbctl.getLsbD 2 = false ∧
    ({ Pia.reset with pactl := 0x04, pbctl := 0x3F } : Pia).pactl.getLsbD 2 = true ∧
    ({ Pia.reset with pactl := 0x04, pbctl := 0x3F } : Pia).pbctl.getLsbD 2 = true := by decide

theorem witness_NoiseRegisters :
    noiseLegal Pokey.reset ∧ (0 : Nat) < 5 ∧ (5 : Nat) < 17 ∧ lfsrStep 5 (0x1FFFF : BitVec 17) = lfsrStep 5 0x1FFFF ∧
    (16 : Nat) < 17 := ⟨chipsLegal_reset.noise, by decide, by decide, rfl, by decide⟩

/-- A joined fast channel, a joined slow one, a fast one and a plain one, each with its divisor. -/
theorem witness_SoundChannels :
    ((0x50#8).getLsbD 4 = true ∧ (0x50#8).getLsbD 6 = true) ∧ ((0x08#8).getLsbD 3 = true ∧ (0x08#8).getLsbD 5 = false) ∧
    ((0x20#8).getLsbD 3 = false ∧ (0x20#8).getLsbD 5 = true) ∧
    0x0 ∈ [0x0, 0x2, 0x4, 0x6, 0x8] ∧ 0x8 ∈ [0x0, 0x2, 0x4, 0x6, 0x8] ∧
    disabledChannel 0 3 = false ∧ highPass 0 0 = false ∧ (0xAF#8).getLsbD 4 = false ∧ (0xAF#8).toNat / 32 = 5 := by decide

/-- R462 by hand: from all ones every new top bit is 0; from `poly9` = 0x020 tap 5 gives a 1. -/
theorem test_polyStep :
    (let p := polyStep Pokey.reset
     (p.poly4, p.poly5, p.poly9, p.poly17) = (0x7, 0xF, 0xFF, 0xFFFF)) ∧
    (polyStep { Pokey.reset with poly9 := 0x020 }).poly9 = 0x110 := by decide

/-- The first and the last of four registers, and two offsets that read 0xFF. -/
theorem witness_AssignedOffsets : (0 : Nat) < 4 ∧ (3 : Nat) < 4 ∧ (0 : Nat) ≠ 0xB ∧ (0xE : Nat) ≠ 0xF := by decide

theorem witness_UnassignedOffsets : 0x15 ≤ 0x1E ∧ 0x0D ≤ 0x11 ∧ 0x1B ≤ 0x1D ∧ 0xB ≤ 0xD ∧ 0xD ∈ [0x6, 0x8, 0xC, 0xD] := by
  decide

end Sys2Proof.Tests
end

section
/-! PROOF. Fetching and running one CPU instruction (`00_scope.md` R16, R101; `30_encoding.md` R130; `65_orchestrator.md` R510).
An opcode's entry says how many operand bytes the instruction has; the decoder, the encoder and the fetch all take that many. -/

namespace Sys2Proof

/-! ## Functions of a byte, compared on the table of their values -/

/-- The values of `f` on the 256 bytes, laid out as the opcode map is: sixteen rows, one for each high nibble (R131). -/
def byteTable {α : Type} (f : Byte → α) : List (List α) :=
  (List.range 16).map fun r => (List.range 16).map fun c => f (BitVec.ofNat 8 (16 * r + c))

theorem eq_of_byteTable_eq {α : Type} {f g : Byte → α} (h : byteTable f = byteTable g) (b : Byte) : f b = g b := by
  have hb := b.isLt
  have row := List.map_inj_left.mp h (b.toNat / 16) (List.mem_range.mpr (by omega))
  have entry := List.map_inj_left.mp row (b.toNat % 16) (List.mem_range.mpr (by omega))
  simpa only [Nat.div_add_mod, BitVec.ofNat_toNat, BitVec.setWidth_eq] using entry

/-! ## An opcode's entry: its operand bytes and the instruction they complete -/

/-- How many operand bytes the entry asks for (R121). -/
def OpEntry.operands : OpEntry → Nat
  | .one _ => 0
  | .two _ => 1
  | .three _ => 2

/-- The entry's instruction when the next two bytes are `w`, low byte first; an entry with fewer operand bytes ignores the
others. -/
def OpEntry.complete (w : Word) : OpEntry → Instr
  | .one i => i
  | .two f => f (loByte w)
  | .three f => f w

theorem OpEntry.operands_le_two (e : OpEntry) : e.operands ≤ 2 := by cases e <;> simp [OpEntry.operands]

/-- The CPU's decoder on an opcode byte and two more bytes: the entry's instruction, and its operand bytes dropped. -/
theorem decode_three_bytes (op b1 b2 : Byte) (rest : List Byte) :
    decode (op :: b1 :: b2 :: rest) =
      .ok ((decodeOpcode op).complete (wordOfBytes b1 b2), (b1 :: b2 :: rest).drop (decodeOpcode op).operands) := by
  simp only [decode, decodeWith]
  cases decodeOpcode op with
  | one i => rfl
  | two f => simp only [OpEntry.complete, OpEntry.operands, loByte_wordOfBytes, List.drop_succ_cons, List.drop_zero]
  | three f => rfl

/-- The opcode map and the encoder agree: the instruction of an opcode byte encodes to that byte and its operand bytes (R131). -/
theorem encode_complete (op : Byte) (w : Word) :
    encode ((decodeOpcode op).complete w) = (encode3 op w).take ((decodeOpcode op).operands + 1) :=
  eq_of_byteTable_eq (f := fun op => encode ((decodeOpcode op).complete w))
    (g := fun op => (encode3 op w).take ((decodeOpcode op).operands + 1)) rfl op

theorem encode_complete_length (op : Byte) (w : Word) :
    (encode ((decodeOpcode op).complete w)).length = (decodeOpcode op).operands + 1 := by
  have := (decodeOpcode op).operands_le_two
  simp only [encode_complete, List.length_take, encode3, List.length_cons, List.length_nil]
  omega

end Sys2Proof

namespace Sys2Proof.Machine

/-! ## Fetching several bytes -/

/-- The state after `n` instruction bytes have been fetched, one after the other. -/
def afterFetches : Nat → State → State
  | 0, s => s
  | n + 1, s => afterFetches n (fetch8 s).2

/-- Fetches move the program counter by one byte each. -/
theorem afterFetches_cpu (n : Nat) (s : State) :
    (afterFetches n s).cpu = { s.cpu with pc := s.cpu.pc + BitVec.ofNat 16 n } := by
  induction n generalizing s with
  | zero => simp only [afterFetches, BitVec.add_zero]
  | succ n ih =>
    obtain ⟨-, hcpu, -⟩ := fetch8_spec s
    have hpc : s.cpu.pc + BitVec.ofNat 16 (n + 1) = s.cpu.pc + 1 + BitVec.ofNat 16 n := by
      rw [Nat.add_comm n 1, BitVec.ofNat_add, ← BitVec.add_assoc, BitVec.ofNat_eq_ofNat]
    rw [afterFetches, ih, hcpu, hpc]

/-- But for the program counter, fetches change only what reads may change. -/
theorem afterFetches_onlyReads (n : Nat) (s : State) : OnlyReads s { afterFetches n s with cpu := s.cpu } := by
  induction n generalizing s with
  | zero => exact OnlyReads.refl s
  | succ n ih =>
    obtain ⟨-, -, hfirst⟩ := fetch8_spec s
    have k := ih (fetch8 s).2
    exact hfirst.trans ⟨rfl, k.ram, k.antic, k.gtia, k.pokey, k.pia, k.orch, k.params, k.collisionPass, k.sinks⟩

/-- The fetch of an instruction reads its opcode byte and as many bytes more as the opcode's entry asks for. -/
theorem fetchInstr_eq (s : State) :
    let b0 := fetch8 s
    let b1 := fetch8 b0.2
    let b2 := fetch8 b1.2
    fetchInstr s =
      ((decodeOpcode b0.1).complete (wordOfBytes b1.1 b2.1), afterFetches ((decodeOpcode b0.1).operands + 1) s) := by
  simp only [fetchInstr]
  cases decodeOpcode (fetch8 s).1 with
  | one i => rfl
  | two f => simp only [readOperand, OpEntry.complete, OpEntry.operands, afterFetches, loByte_wordOfBytes]
  | three f => rfl

/-- With nothing scheduled and the program counter outside the register window, a fetch reads the byte of the map and moves the
program counter, nothing else. -/
theorem fetch8_quiet {s : State} (hscan : s.scan = []) (hpc : inIoWindow s.cpu.pc = false) :
    fetch8 s = (storeByte s s.cpu.pc, setPc (s.cpu.pc + 1) s) := by
  simp only [fetch8, memRead_store hpc, scanTick_quiet hscan]

/-- The bytes of the map do not depend on the program counter. -/
@[simp] theorem storeByte_setPc (w : Word) (s : State) (a : Word) : storeByte (setPc w s) a = storeByte s a := rfl

@[simp] theorem setPc_setPc (v w : Word) (s : State) : setPc v (setPc w s) = setPc v s := rfl

/-- With nothing scheduled and three bytes outside the register window, three fetches read the bytes of the map in order. -/
theorem fetches_quiet {s : State} (hscan : s.scan = [])
    (houtside : ∀ k, k < 3 → inIoWindow (s.cpu.pc + BitVec.ofNat 16 k) = false) :
    fetch8 s = (storeByte s s.cpu.pc, setPc (s.cpu.pc + 1) s) ∧
    fetch8 (setPc (s.cpu.pc + 1) s) = (storeByte s (s.cpu.pc + 1), setPc (s.cpu.pc + 2) s) ∧
    fetch8 (setPc (s.cpu.pc + 2) s) = (storeByte s (s.cpu.pc + 2), setPc (s.cpu.pc + 3) s) := by
  have next (m n : Word) (h : m + 1 = n) (hpc : inIoWindow (s.cpu.pc + m) = false) :
      fetch8 (setPc (s.cpu.pc + m) s) = (storeByte s (s.cpu.pc + m), setPc (s.cpu.pc + n) s) := by
    rw [fetch8_quiet (s := setPc (s.cpu.pc + m) s) hscan hpc, storeByte_setPc, setPc_setPc, setPc_cpu,
      BitVec.add_assoc, h]
  have first := houtside 0 (by decide)
  rw [BitVec.add_zero] at first
  exact ⟨fetch8_quiet hscan first, next 1 2 rfl (houtside 1 (by decide)), next 2 3 rfl (houtside 2 (by decide))⟩

/-! ## The step -/

/-- A step of a machine whose scanline has budget left runs one instruction. -/
theorem step_of_mayRun {s : State} (h : mayRun s = true) : step s = cpuStep s := if_pos h

end Sys2Proof.Machine

namespace Sys2Proof.Proofs

open Sys2Proof.Machine

/-- Settles O41: decoder, encoder and fetch take the operand bytes the opcode's entry asks for. -/
theorem stepFetchesAnywhere : Obligations.StepFetchesAnywhere := by
  unfold Obligations.StepFetchesAnywhere
  intro s hrun b0 b1 b2
  refine ⟨(decodeOpcode b0.1).complete (wordOfBytes b1.1 b2.1), afterFetches ((decodeOpcode b0.1).operands + 1) s,
    ?_, ⟨_, decode_three_bytes b0.1 b1.1 b2.1 [], ?_⟩, ?_, afterFetches_onlyReads _ s⟩
  · rw [step_of_mayRun hrun, cpuStep, fetchInstr_eq]
  · cases decodeOpcode b0.1 <;> rfl
  · rw [afterFetches_cpu, encode_complete_length]

/-- Settles O40: the case of O41 in which each fetch only moves PC. -/
theorem stepRunsDecoded : Obligations.StepRunsDecoded := by
  unfold Obligations.StepRunsDecoded
  intro s i rest hrun hscan houtside hdecode
  obtain ⟨h0, h1, h2⟩ := fetches_quiet hscan houtside
  obtain ⟨j, u, hstep, ⟨rest', hfetched, hu⟩, hcpu, -⟩ := stepFetchesAnywhere s hrun
  rw [h0, h1, h2] at hfetched hu
  have same : i = j := congrArg Prod.fst (Except.ok.inj (hdecode.symm.trans hfetched))
  have moved : ∃ w, u = setPc w s := by
    rw [hu]
    split <;> [exact ⟨_, rfl⟩; split <;> exact ⟨_, rfl⟩]
  obtain ⟨w, rfl⟩ := moved
  have hw : w = s.cpu.pc + BitVec.ofNat 16 (encode i).length := same ▸ congrArg Config.Cpu.pc hcpu
  rw [hstep, ← same, hw]
  rfl

end Sys2Proof.Proofs
end

section
/-! PROOF. What every step of the machine is made of (`10_state.md` R20 to R62; `65_orchestrator.md` R510).
A step, whatever instruction or scanline it runs, is a sequence of the few updates that `MicroStep` lists. An invariant of the
machine is one that each of them keeps: `step_keeps` is the induction, made once. -/

namespace Sys2Proof.Machine

/-! ## The updates a step is made of -/

/-- The scanline counter, the picture and the fixed bits of `NMIST` (R44, R47, R385) are the same in both: so they are before and
after everything the video coprocessor does but for drawing, counting scanlines and writes of its registers. -/
structure SameFrame (a b : Antic) : Prop where
  scanline : b.scanline = a.scanline
  fb : b.fb = a.fb
  nmist : b.nmist &&& 0x3F = a.nmist &&& 0x3F

/-- One update of the machine's state. -/
inductive MicroStep (s : State) : State → Prop where
  /-- a new register file (R20) -/
  | cpu (c : Cpu) : MicroStep s (s.setCpu c)
  /-- a byte stored in the backing store (R81) -/
  | store (a : Word) (v : Byte) : MicroStep s (writeRam a v s)
  /-- a register write (R85) -/
  | register (a : Word) (v : Byte) : MicroStep s (ioWrite a v s)
  /-- the noise registers move on by one step (R457, R463) -/
  | noise : MicroStep s (s.setPokey (polyStep s.pokey))
  /-- one event of the scan task (R523) -/
  | latch (e : ScanEvent) : MicroStep s (applyScan s e)
  /-- the schedule of the scan task moves on -/
  | schedule (l : List (List ScanEvent)) : MicroStep s (s.setScan l)
  /-- cycles, budget and the NMI latch (R60, R62) -/
  | orch (o : Orch) (h : o.haltFlag = s.orch.haltFlag) : MicroStep s (s.setOrch o)
  /-- the display list, the mode line in progress, the interrupt requests, the WSYNC halt (R41 to R46) -/
  | video (a : Antic) (h : SameFrame s.antic a) : MicroStep s (s.setAntic a)
  /-- a pixel row drawn (R395) -/
  | row (y : Nat) (row : List Pixel) (hy : y < Config.visibleLines) (hrow : row.length = Config.fbWidth) :
      MicroStep s (putRow y row s)
  /-- a collision pass (R398) -/
  | collisions : MicroStep s (collisionPass s)
  /-- the scanline counter moves on (R390) -/
  | scanline : MicroStep s (s.setAntic (nextScanline s.antic))
  /-- the oscillators and the sample buffer (R465, R466) -/
  | sound (p : Pokey) (h : p = { s.pokey with
      divcnt := p.divcnt, sq := p.sq, last := p.last, polyTick := p.polyTick, samples := p.samples
      sampleIndex := p.sampleIndex }) : MicroStep s (s.setPokey p)
  /-- the hand-over to the sinks (R515) -/
  | sinks (k : Sinks) : MicroStep s (s.setSinks k)

/-- `t` is reached from `s` by updates of the list. -/
abbrev Moves : State → State → Prop := Relation.ReflTransGen MicroStep

/-- The outcome `r` is a next state, reached from `s` by updates of the list. -/
abbrev Runs (s : State) (r : Result) : Prop := ∃ t, r = .next t ∧ Moves s t

theorem MicroStep.moves {s t : State} (h : MicroStep s t) : Moves s t := .single h

/-- An optional update. -/
theorem Moves.ite {s t : State} {c : Prop} {_ : Decidable c} (h : Moves s t) : Moves s (if c then t else s) := by
  split
  · exact h
  · exact .refl

theorem Runs.after {s t : State} {r : Result} (h : Moves s t) (k : Runs t r) : Runs s r :=
  let ⟨u, e, m⟩ := k
  ⟨u, e, h.trans m⟩

theorem Runs.onNext {s : State} {r : Result} {f : State → Result} (h : Runs s r) (k : ∀ t, Runs t (f t)) :
    Runs s (onNext r f) := by
  obtain ⟨t, rfl, m⟩ := h
  exact .after m (k t)

/-- What each update of the list keeps, a sequence of them keeps. -/
theorem Moves.keeps {P : State → Prop} (kept : ∀ s t, MicroStep s t → P s → P t) {s t : State} (h : Moves s t)
    (hs : P s) : P t := by
  induction h with
  | refl => exact hs
  | tail _ k ih => exact kept _ _ k ih

/-! ## Memory accesses, the stack, exceptions -/

theorem scanTick_moves (s : State) : Moves s (scanTick s) := by
  have fold (l : List ScanEvent) (t : State) : Moves t (l.foldl applyScan t) := by
    induction l generalizing t with
    | nil => exact .refl
    | cons e l ih => exact (MicroStep.latch e).moves.trans (ih _)
  unfold scanTick
  split
  · exact .refl
  · exact (MicroStep.schedule _).moves.trans (fold _ _)

/-- Of the registers only `RANDOM` of the sound coprocessor changes anything when it is read (R102, R457). -/
theorem ioRead_moves (a : Word) (s : State) : Moves s (ioRead a s).2 := by
  unfold ioRead
  split
  · exact .refl
  · split
    · unfold pokeyRead
      split
      case h_2 => exact MicroStep.noise.moves -- offset 0xA, `RANDOM`
      all_goals exact .refl
    · split
      · exact .refl
      · split <;> exact .refl

theorem routeRead_moves (a : Word) (s : State) : Moves s (routeRead a s).2 := by
  unfold routeRead
  split
  · exact ioRead_moves a s
  · exact .refl

theorem routeWrite_moves (a : Word) (v : Byte) (s : State) : Moves s (routeWrite a v s) := by
  unfold routeWrite
  split
  · exact (MicroStep.register a v).moves
  · exact (MicroStep.store a v).moves

theorem memRead_moves (a : Word) (s : State) : Moves s (memRead a s).2 := (scanTick_moves s).trans (routeRead_moves a _)

theorem memWrite_moves (a : Word) (v : Byte) (s : State) : Moves s (memWrite a v s) :=
  (scanTick_moves s).trans (routeWrite_moves a v _)

theorem setCpu_moves (c : Cpu) (s : State) : Moves s (s.setCpu c) := (MicroStep.cpu c).moves

theorem setPc_moves (w : Word) (s : State) : Moves s (setPc w s) := setCpu_moves _ s

theorem charge_moves (n : Nat) (s : State) : Moves s (charge n s) :=
  (MicroStep.orch { s.orch with lineCycles := s.orch.lineCycles + n } rfl).moves

theorem setNmiLatch_moves (b : Bool) (s : State) : Moves s (s.setOrch { s.orch with nmiInService := b }) :=
  (MicroStep.orch { s.orch with nmiInService := b } rfl).moves

/-- The video coprocessor moves on within its frame, which an update of its other fields shows by its form. -/
theorem setAntic_moves {s : State} (a : Antic) (h : SameFrame s.antic a := by exact ⟨rfl, rfl, rfl⟩) :
    Moves s (s.setAntic a) := (MicroStep.video a h).moves

theorem read16_moves (a : Word) (s : State) : Moves s (read16 a s).2 := (memRead_moves a s).trans (memRead_moves (a + 1) _)

theorem read16zp_moves (z : Byte) (s : State) : Moves s (read16zp z s).2 := (memRead_moves _ s).trans (memRead_moves _ _)

theorem fetch8_moves (s : State) : Moves s (fetch8 s).2 := (memRead_moves _ s).trans (setPc_moves _ _)

theorem fetch16_moves (s : State) : Moves s (fetch16 s).2 := (fetch8_moves s).trans (fetch8_moves _)

theorem push8_moves (v : Byte) (s : State) : Moves s (push8 v s) := (memWrite_moves _ v s).trans (setCpu_moves _ _)

theorem push16_moves (w : Word) (s : State) : Moves s (push16 w s) := (push8_moves _ s).trans (push8_moves _ _)

theorem pull8_moves (s : State) : Moves s (pull8 s).2 := (setCpu_moves _ s).trans (memRead_moves _ _)

theorem pull16_moves (s : State) : Moves s (pull16 s).2 := (pull8_moves s).trans (pull8_moves _)

theorem effAddr_moves (m : MemMode) (s : State) : Moves s (effAddr m s).2 := by
  cases m with
  | indx z => exact read16zp_moves (z + s.cpu.x) s
  | indy z => exact read16zp_moves z s
  | zp | zpx | zpy | abs | absx | absy => exact .refl

theorem enterTrap_moves (k : Trap) (s : State) : Moves s (enterTrap k s) :=
  (setCpu_moves _ s).trans <| (push16_moves _ _).trans <| (push8_moves _ _).trans <| (setCpu_moves _ _).trans <|
    (read16_moves _ _).trans (setPc_moves _ _)

theorem returnTrap_moves (s : State) : Moves s (returnTrap s) :=
  (pull8_moves s).trans <| (setCpu_moves _ _).trans <| (pull16_moves _).trans <| (setPc_moves _ _).trans <|
    Moves.ite (setNmiLatch_moves false _)

/-! ## Instructions, by their shapes -/

theorem readInstr_runs (cost pen : Nat) (f : Byte → Cpu → Cpu) (m : MemMode) (s : State) :
    Runs s (readInstr cost pen f m s) :=
  ⟨_, rfl, (effAddr_moves m s).trans <| (memRead_moves _ _).trans <| (setCpu_moves _ _).trans (charge_moves _ _)⟩

theorem storeInstr_runs (cost : Nat) (v : Byte) (m : MemMode) (s : State) : Runs s (storeInstr cost v m s) :=
  ⟨_, rfl, (effAddr_moves m s).trans <| (memWrite_moves _ v _).trans (charge_moves cost _)⟩

theorem rmwInstr_runs (cost : Nat) (f : Byte → Cpu → Byte × Cpu) (m : MemMode) (s : State) :
    Runs s (rmwInstr cost f m s) :=
  ⟨_, rfl, (effAddr_moves m s).trans <| (memRead_moves _ _).trans <| (setCpu_moves _ _).trans <|
    (memWrite_moves _ _ _).trans (charge_moves cost _)⟩

theorem branchInstr_runs (cond : Bool) (d : Byte) (s : State) : Runs s (branchInstr cond d s) := by
  cases cond with
  | false => exact ⟨_, rfl, charge_moves 2 s⟩
  | true => exact ⟨_, rfl, (setPc_moves _ s).trans (charge_moves _ _)⟩

theorem undocStep_runs (op : Byte) (s : State) : Runs s (undocStep op s) := by
  have writes (l : List (Word × Byte)) (t : State) : Moves t (undocWrites l t) := by
    induction l generalizing t with
    | nil => exact .refl
    | cons w l ih => exact (memWrite_moves w.1 w.2 t).trans (ih _)
  exact ⟨_, rfl, (writes _ s).trans <| (setCpu_moves _ _).trans (charge_moves _ _)⟩

/-! ## Display-list instructions -/

theorem SameFrame.trans {a b c : Antic} (h : SameFrame a b) (k : SameFrame b c) : SameFrame a c :=
  ⟨k.scanline.trans h.scanline, k.fb.trans h.fb, k.nmist.trans h.nmist⟩

/-- A request sets bit 7 or 6 of `NMIST`, above the fixed bits. -/
theorem fixedBits_or (v : Byte) : (v ||| 0x80) &&& 0x3F = v &&& 0x3F ∧ (v ||| 0x40) &&& 0x3F = v &&& 0x3F := by
  revert v; decide

theorem raiseVbi_sameFrame (a : Antic) : SameFrame a (raiseVbi a) := by
  unfold raiseVbi
  split
  · exact ⟨rfl, rfl, (fixedBits_or a.nmist).2⟩
  · exact ⟨rfl, rfl, rfl⟩

theorem dliModifier_sameFrame (a : Antic) : SameFrame a (dliModifier a) := by
  unfold dliModifier raiseDli
  split
  · split
    · exact ⟨rfl, rfl, (fixedBits_or a.nmist).1⟩
    · exact ⟨rfl, rfl, rfl⟩
  · exact ⟨rfl, rfl, rfl⟩

theorem modeLine_sameFrame (m : BitVec 4) (r : ModeRow) (a : Antic) : SameFrame a (modeLine m r a) := by
  rw [modeLine, putWidth_frame]
  exact ⟨rfl, rfl, rfl⟩

/-- A display-list instruction ends with the DLI modifier (R310). -/
theorem dliModifier_runs {s : State} {a : Antic} (h : SameFrame s.antic a) :
    Runs s (.next (s.setAntic (dliModifier a))) :=
  ⟨_, rfl, setAntic_moves _ (h.trans (dliModifier_sameFrame a))⟩

theorem execDlMode_runs (dli vs hs : Bool) {m : BitVec 4} (w : modeLineNumber m = true) (s : State) :
    Runs s (execDlMode dli vs hs m s) := by
  obtain ⟨r, e, -⟩ := modeRow_spec m (of_decide_eq_true w)
  rw [execDlMode, e]
  have k := modeLine_sameFrame m r (latchModifiers dli vs hs s.antic)
  exact dliModifier_runs ⟨k.scanline, k.fb, k.nmist⟩

theorem execDlModeLms_runs (dli vs hs : Bool) {m : BitVec 4} (addr : Word) (w : modeLineNumber m = true) (s : State) :
    Runs s (execDlModeLms dli vs hs m addr s) := by
  obtain ⟨r, e, -⟩ := modeRow_spec m (of_decide_eq_true w)
  rw [execDlModeLms, e]
  have k := modeLine_sameFrame m r (latchModifiers dli vs hs s.antic)
  exact dliModifier_runs ⟨k.scanline, k.fb, k.nmist⟩

/-! ## Every instruction -/

theorem exec_runs (i : Instr) (w : i.wellFormed = true) (s : State) : Runs s (exec i s) := by
  cases i with
  | oraIndx | oraZp | oraAbs | oraIndy | oraZpx | oraAbsy | oraAbsx | andIndx | andZp | andAbs | andIndy | andZpx | andAbsy
  | andAbsx | eorIndx | eorZp | eorAbs | eorIndy | eorZpx | eorAbsy | eorAbsx | bitZp | bitAbs | adcIndx | adcZp | adcAbs
  | adcIndy | adcZpx | adcAbsy | adcAbsx | sbcIndx | sbcZp | sbcAbs | sbcIndy | sbcZpx | sbcAbsy | sbcAbsx | cmpIndx
  | cmpZp | cmpAbs | cmpIndy | cmpZpx | cmpAbsy | cmpAbsx | cpxZp | cpxAbs | cpyZp | cpyAbs | ldaIndx | ldaZp | ldaAbs
  | ldaIndy | ldaZpx | ldaAbsy | ldaAbsx | ldxZp | ldxAbs | ldxZpy | ldxAbsy | ldyZp | ldyAbs | ldyZpx | ldyAbsx =>
    exact readInstr_runs _ _ _ _ s
  | staIndx | staZp | staAbs | staIndy | staZpx | staAbsy | staAbsx | stxZp | stxAbs | stxZpy | styZp | styAbs | styZpx =>
    exact storeInstr_runs _ _ _ s
  | aslZp | aslAbs | aslZpx | aslAbsx | rolZp | rolAbs | rolZpx | rolAbsx | lsrZp | lsrAbs | lsrZpx | lsrAbsx | rorZp
  | rorAbs | rorZpx | rorAbsx | decZp | decAbs | decZpx | decAbsx | incZp | incAbs | incZpx | incAbsx =>
    exact rmwInstr_runs _ _ _ s
  | clc | sec | cli | sei | clv | cld | sed | tax | tay | txa | tya | tsx | txs | inx | iny | dex | dey | nop | aslAcc
  | rolAcc | lsrAcc | rorAcc | oraImm | andImm | eorImm | adcImm | sbcImm | cmpImm | cpxImm | cpyImm | ldaImm | ldxImm
  | ldyImm => exact ⟨_, rfl, (setCpu_moves _ s).trans (charge_moves 2 _)⟩
  | bpl | bmi | bvc | bvs | bcc | bcs | bne | beq => exact branchInstr_runs _ _ s
  | jmpAbs => exact ⟨_, rfl, (setPc_moves _ s).trans (charge_moves 3 _)⟩
  | jmpInd =>
    exact ⟨_, rfl, (memRead_moves _ s).trans <| (memRead_moves _ _).trans <| (setPc_moves _ _).trans (charge_moves 5 _)⟩
  | jsr => exact ⟨_, rfl, (push16_moves _ s).trans <| (setPc_moves _ _).trans (charge_moves 6 _)⟩
  | rts => exact ⟨_, rfl, (pull16_moves s).trans <| (setPc_moves _ _).trans (charge_moves 6 _)⟩
  | pha | php => exact ⟨_, rfl, (push8_moves _ s).trans (charge_moves 3 _)⟩
  | pla | plp => exact ⟨_, rfl, (pull8_moves s).trans <| (setCpu_moves _ _).trans (charge_moves 4 _)⟩
  | brk => exact ⟨_, rfl, (setPc_moves _ s).trans <| (enterTrap_moves .brk _).trans (charge_moves 7 _)⟩
  | rti => exact ⟨_, rfl, (returnTrap_moves s).trans (charge_moves 6 _)⟩
  | dlBlank => exact dliModifier_runs ⟨rfl, rfl, rfl⟩
  | dlJmp => exact dliModifier_runs ⟨rfl, rfl, rfl⟩
  | dlJvb dli vs hs addr =>
    have v := raiseVbi_sameFrame { latchModifiers dli vs hs s.antic with
      dlPc := addr, curMode := 0, rowsLeft := 0, dlActive := false }
    exact dliModifier_runs ⟨v.scanline, v.fb, v.nmist⟩
  | dlMode => exact execDlMode_runs _ _ _ w s
  | dlModeLms => exact execDlModeLms_runs _ _ _ _ w s
  | _ => exact undocStep_runs _ s

/-! ## The CPU's part of a step -/

theorem readOperand_moves {byte : State → Byte × State} {word : State → Word × State}
    (hbyte : ∀ s, Moves s (byte s).2) (hword : ∀ s, Moves s (word s).2) (e : OpEntry) (s : State) :
    Moves s (readOperand byte word e s).2 := by
  cases e with
  | one => exact .refl
  | two => exact hbyte s
  | three => exact hword s

theorem fetchInstr_moves (s : State) : Moves s (fetchInstr s).2 :=
  (fetch8_moves s).trans (readOperand_moves fetch8_moves fetch16_moves _ _)

/-- The opcode map names well-formed instructions only (R131). -/
theorem decodeOpcode_wellFormed (op : Byte) (w : Word) : ((decodeOpcode op).complete w).wellFormed = true :=
  eq_of_byteTable_eq (f := fun op => ((decodeOpcode op).complete w).wellFormed) (g := fun _ => true) rfl op

theorem fetchInstr_wellFormed (s : State) : (fetchInstr s).1.wellFormed = true := by
  rw [fetchInstr_eq]
  exact decodeOpcode_wellFormed _ _

theorem afterInstruction_moves (s : State) : Moves s (afterInstruction s) := by
  unfold afterInstruction
  dsimp only
  have taken := (scanTick_moves s).trans (setAntic_moves (takeRequests (scanTick s).antic))
  generalize (scanTick s).setAntic (takeRequests (scanTick s).antic) = u at taken ⊢
  have nmi := (setNmiLatch_moves true u).trans <| (enterTrap_moves .nmi _).trans (charge_moves 7 _)
  exact taken.trans <| (Moves.ite nmi).trans <| Moves.ite <| (enterTrap_moves .irq _).trans (charge_moves 7 _)

theorem cpuStep_runs (s : State) : Runs s (cpuStep s) :=
  .after (fetchInstr_moves s) <| (exec_runs _ (fetchInstr_wellFormed s) _).onNext fun t =>
    ⟨_, rfl, afterInstruction_moves t⟩

/-! ## Drawing a scanline -/

theorem dlFetch8_moves (s : State) : Moves s (dlFetch8 s).2 :=
  (memRead_moves _ s).trans (setAntic_moves _)

theorem dlFetch16_moves (s : State) : Moves s (dlFetch16 s).2 := (dlFetch8_moves s).trans (dlFetch8_moves _)

theorem dlFetchInstr_moves (s : State) : Moves s (dlFetchInstr s).2 :=
  (dlFetch8_moves s).trans (readOperand_moves dlFetch8_moves dlFetch16_moves _ _)

theorem processDisplayList_runs (s : State) : Runs s (processDisplayList s) :=
  .after (dlFetchInstr_moves s) (exec_runs _ (dlFetchInstr_spec s).2.1 _)

theorem unitColours_moves (r : Renderer) (a : Antic) (k : LineColours) (code : Byte) (s : State) :
    Moves s (unitColours r a k code s).2 := by
  cases r with
  | t2 | t4 | t5 => exact memRead_moves _ s
  | b2d | b2s | b1 => exact .refl

theorem unitsColours_moves (r : Renderer) (a : Antic) (k : LineColours) (n i : Nat) (s : State) :
    Moves s (unitsColours r a k n i s).2 := by
  induction n generalizing i s with
  | zero => exact .refl
  | succ n ih => exact (memRead_moves _ s).trans <| (unitColours_moves r a k _ _).trans (ih (i + 1) _)

theorem drawModeLine_moves {y : Nat} (hy : y < Config.visibleLines) (k : LineColours) (s : State) :
    Moves s (drawModeLine y k s) := by
  unfold drawModeLine
  split
  · refine (unitsColours_moves _ _ k _ 0 s).trans (MicroStep.row y _ hy ?_).moves
    rw [overlay_length, backgroundRow_length, Config.fbWidth]
  · exact .refl

theorem advanceMemscan_sameFrame (a : Antic) : SameFrame a (advanceMemscan a) := by
  unfold advanceMemscan
  split <;> exact ⟨rfl, rfl, rfl⟩

theorem drawLine_moves {y : Nat} (hy : y < Config.visibleLines) (k : LineColours) (s : State) :
    Moves s (drawLine y k s) := by
  unfold drawLine
  split
  · exact .refl
  · refine .trans ?_ (setAntic_moves _)
    exact Moves.ite <| (drawModeLine_moves hy k s).trans (setAntic_moves _ (advanceMemscan_sameFrame _))

/-- The visible window in numbers (R395). -/
theorem visibleScanline_iff (n : Nat) : visibleScanline n = true ↔ 8 ≤ n ∧ n < 248 := by
  rw [visibleScanline, Bool.and_eq_true, decide_eq_true_eq, decide_eq_true_eq]
  rfl

theorem drawScanline_runs (s : State) : Runs s (drawScanline s) := by
  unfold drawScanline
  split
  case isTrue => exact ⟨s, rfl, .refl⟩
  case isFalse hvisible =>
    obtain ⟨hfirst, hlast⟩ := (visibleScanline_iff _).mp (by simpa using hvisible)
    have hy : s.antic.scanline - Config.visibleFirst < Config.visibleLines := by
      simp only [Config.visibleFirst, Config.visibleLines]
      omega
    refine .after ((MicroStep.row _ (backgroundRow s.gtia.colbk) hy (backgroundRow_length _)).moves.trans
      MicroStep.collisions.moves) ?_
    dsimp only
    split
    · exact ⟨_, rfl, .refl⟩
    · refine Runs.onNext ?_ fun t => ⟨_, rfl, drawLine_moves hy _ t⟩
      split
      · exact processDisplayList_runs _
      · exact ⟨_, rfl, .refl⟩

/-! ## The turn of a scanline -/

/-- One sample: at the cadence the noise registers move on, and then the oscillators run (R466). -/
theorem sampleStep_moves (cadence : Nat) (s : State) : Moves s (s.setPokey (sampleStep cadence s.pokey)) := by
  unfold sampleStep
  dsimp only
  split
  · exact MicroStep.noise.moves.trans (MicroStep.sound _ rfl).moves
  · exact (MicroStep.sound _ rfl).moves

theorem sampleSteps_moves (cadence n : Nat) (s : State) : Moves s (s.setPokey (sampleSteps cadence n s.pokey)) := by
  induction n generalizing s with
  | zero => exact .refl
  | succ n ih => exact (sampleStep_moves cadence s).trans (ih (s.setPokey (sampleStep cadence s.pokey)))

theorem topUpAudio_moves (s : State) : Moves s (topUpAudio s) := sampleSteps_moves _ _ s

theorem frameBoundary_moves (s : State) : Moves s (frameBoundary s) :=
  (MicroStep.sound { s.pokey with sampleIndex := 0 } rfl).moves.trans <|
    (setNmiLatch_moves false _).trans (MicroStep.sinks _).moves

theorem finishScanline_moves (s : State) : Moves s (finishScanline s) :=
  (topUpAudio_moves s).trans <| MicroStep.scanline.moves.trans (Moves.ite (frameBoundary_moves _))

theorem consumeLine_moves (s : State) : Moves s (consumeLine s) :=
  Moves.ite (MicroStep.orch { s.orch with lineCycles := s.orch.budget.toNat } rfl).moves

theorem releaseWsync_moves (s : State) : Moves s (releaseWsync s) := setAntic_moves _

theorem endOfScanline_runs (s : State) : Runs s (endOfScanline s) :=
  .after ((scanTick_moves s).trans (releaseWsync_moves _)) <| (drawScanline_runs _).onNext fun t =>
    ⟨_, rfl, finishScanline_moves t⟩

theorem startScanline_moves (s : State) : Moves s (startScanline s) :=
  (MicroStep.orch { s.orch with
    budget := (Config.cyclesPerScanline : Int) - s.antic.dmaCycles, lineCycles := 0 } rfl).moves.trans
      (setAntic_moves _)

theorem scanlineTurn_runs (s : State) : Runs s (scanlineTurn s) :=
  .after (consumeLine_moves s) <| (endOfScanline_runs _).onNext fun t => ⟨_, rfl, startScanline_moves t⟩

/-! ## The step -/

/-- Every step is a sequence of updates of the list. -/
theorem step_runs (s : State) : Runs s (step s) := by
  unfold step
  split
  · exact cpuStep_runs s
  · exact scanlineTurn_runs s

/-- What every update of the list keeps, every step keeps. -/
theorem step_keeps {P : State → Prop} (kept : ∀ s t, MicroStep s t → P s → P t) {s t : State} (h : step s = .next t)
    (hs : P s) : P t := by
  obtain ⟨u, e, m⟩ := step_runs s
  obtain rfl : u = t := by rw [h] at e; cases e; rfl
  exact m.keeps kept hs

end Sys2Proof.Machine
end

section
/-! PROOF. The invariants of the state (`10_state.md`): every update of `MicroStep` keeps the legal states of the chips and the
arguments of the model, so every step does. -/

namespace Sys2Proof.Machine

/-! ## The video coprocessor (R44, R47, R385) -/

theorem frameBufferWf_setRow {f : FrameBuffer} (h : frameBufferWf f = true) {y : Nat} {row : List Pixel}
    (hy : y < Config.visibleLines) (hrow : row.length = Config.fbWidth) : frameBufferWf (setRow f y row) = true := by
  have new : (decide (y < Config.visibleLines) && decide (row.length = Config.fbWidth)) = true := by simp [hy, hrow]
  induction f with
  | nil => exact Bool.and_eq_true_iff.mpr ⟨new, rfl⟩
  | cons r f ih =>
    obtain ⟨hr, hf⟩ := Bool.and_eq_true_iff.mp h
    unfold setRow
    split
    · exact Bool.and_eq_true_iff.mpr ⟨new, h⟩
    · split
      · exact Bool.and_eq_true_iff.mpr ⟨new, hf⟩
      · exact Bool.and_eq_true_iff.mpr ⟨hr, ih hf⟩

theorem SameFrame.anticLegal {a b : Antic} (h : SameFrame a b) (ha : anticLegal a) : anticLegal b := by
  obtain ⟨hscanline, hnmist, hfb⟩ := ha
  exact ⟨h.scanline ▸ hscanline, h.nmist.trans hnmist, h.fb ▸ hfb⟩

/-- A register write leaves counter and picture alone; one of `NMIRES` gives `NMIST` its fixed bits (R385). -/
theorem anticLegal_anticWrite {a : Antic} (h : anticLegal a) (o : Nat) (v : Byte) : anticLegal (anticWrite o v a) := by
  obtain ⟨hscanline, -, hfb⟩ := id h
  unfold anticWrite
  split
  case h_11 => exact ⟨hscanline, (by decide : (0x1F : Byte) &&& 0x3F = 0x1F), hfb⟩
  all_goals exact h

theorem anticLegal_nextScanline {a : Antic} (h : anticLegal a) : anticLegal (nextScanline a) := by
  obtain ⟨hscanline, hnmist, hfb⟩ := h
  unfold nextScanline
  dsimp only
  split
  case isTrue => exact (raiseVbi_sameFrame _).anticLegal ⟨(by decide : 0 < Config.scanlinesPerFrame), hnmist, hfb⟩
  case isFalse hlast => exact ⟨by dsimp only; omega, hnmist, hfb⟩

/-! ## The collision registers (R427, R428) -/

theorem collisionsLegal_hitclr (g : Gtia) : collisionsLegal (hitclr g) := fun i _ => by
  simp only [hitclr, Quad.get_all]
  decide

/-- Of the register writes only `HITCLR` touches the collision registers (R428, R430). -/
theorem collisionsLegal_gtiaWrite {g : Gtia} (h : collisionsLegal g) (o : Nat) (v : Byte) :
    collisionsLegal (gtiaWrite o v g) := by
  by_cases hit : o = 0x1E
  · subst hit
    exact collisionsLegal_hitclr g
  · unfold gtiaWrite
    rw [if_neg hit]
    repeat' split
    all_goals exact h

theorem orDraws_legal {q : Quad Byte} {i : Nat} (hi : i < 4) (n first : Nat) (h : q.get i &&& 0xF0 = 0) :
    (orDraws n first q).get i &&& 0xF0 = 0 := by
  have low (d : Byte) : d &&& 0x0F &&& 0xF0 = 0 := by rw [BitVec.and_assoc]; exact BitVec.and_zero
  rw [orDraws, Quad.get_ofFn _ _ hi, BitVec.and_or_distrib_right, h, low]
  rfl

theorem collisionsLegal_collisionBits {g : Gtia} (h : collisionsLegal g) (n : Nat) : collisionsLegal (collisionBits n g) := by
  intro i hi
  obtain ⟨hmpf, hppf, hmpl, hppl⟩ := h i hi
  exact ⟨orDraws_legal hi n 0 hmpf, orDraws_legal hi n 4 hppf, orDraws_legal hi n 8 hmpl, orDraws_legal hi n 12 hppl⟩

/-! ## The noise registers and the periods (R461, R462) -/

/-- One step of a noise register, bit by bit: a shift right with the new bit on top (R462). -/
theorem getLsbD_lfsrStep {w : Nat} (t : Nat) (p : BitVec w) {k : Nat} (hk : k < w) :
    (lfsrStep t p).getLsbD k = if k = w - 1 then p.getLsbD 0 ^^ p.getLsbD t else p.getLsbD (k + 1) := by
  unfold lfsrStep
  rw [BitVec.getLsbD_or, BitVec.getLsbD_ushiftRight, BitVec.getLsbD_shiftLeft, Nat.add_comm 1 k]
  by_cases top : k = w - 1
  · have out : p.getLsbD (k + 1) = false := BitVec.getLsbD_of_ge _ _ (by omega)
    have pos : 0 < w := by omega
    rw [out, if_pos top]
    simp [top, pos]
  · have below : k < w - 1 := by omega
    simp [top, below]

/-- No step of a noise register leads to 0 but from 0. -/
theorem lfsrStep_ne_zero {w t : Nat} {p : BitVec w} (ht : 0 < t) (htw : t < w) (h : p ≠ 0) : lfsrStep t p ≠ 0 := by
  intro zero
  have shifted (k : Nat) (hk : k + 1 < w) : p.getLsbD (k + 1) = false := by
    have bit := getLsbD_lfsrStep t p (k := k) (by omega)
    rw [zero, if_neg (by omega)] at bit
    simpa using bit.symm
  have top := getLsbD_lfsrStep t p (k := w - 1) (by omega)
  have tap : p.getLsbD t = false := by
    obtain ⟨j, rfl⟩ := Nat.exists_eq_add_one.mpr ht
    exact shifted j htw
  refine h (BitVec.eq_of_getLsbD_eq fun k hk => ?_)
  cases k with
  | zero => simpa [zero, tap] using top.symm
  | succ k => simpa using shifted k hk

theorem noiseLegal_polyStep {p : Pokey} (h : noiseLegal p) : noiseLegal (polyStep p) := by
  obtain ⟨h4, h5, h9, h17, hperiod⟩ := h
  exact ⟨lfsrStep_ne_zero (by decide) (by decide) h4, lfsrStep_ne_zero (by decide) (by decide) h5,
    lfsrStep_ne_zero (by decide) (by decide) h9, lfsrStep_ne_zero (by decide) (by decide) h17, hperiod⟩

theorem periodOf_pos (sampleRate half : Nat) : 1 ≤ periodOf sampleRate half := by
  unfold periodOf
  exact Nat.le_max_left 1 _

theorem noiseLegal_recompute {p : Pokey} (h : noiseLegal p) (sampleRate : Nat) : noiseLegal (recompute sampleRate p) := by
  obtain ⟨h4, h5, h9, h17, -⟩ := h
  unfold recompute
  refine ⟨h4, h5, h9, h17, fun i hi => ?_⟩
  rw [Quad.get_ofFn _ _ hi]
  exact periodOf_pos _ _

/-- The writes of `AUDF1` to `AUDF4` and `AUDCTL` recompute the periods, the others leave them alone (R453, R461). -/
theorem noiseLegal_pokeyWrite {p : Pokey} (h : noiseLegal p) (sampleRate o : Nat) (v : Byte) :
    noiseLegal (pokeyWrite sampleRate o v p) := by
  unfold pokeyWrite
  split
  case h_1 | h_3 | h_5 | h_7 | h_9 =>
    apply noiseLegal_recompute
    exact h
  all_goals exact h

/-! ## The keyboard interrupt (R473 to R476) -/

theorem irqLegal_recompute {p : Pokey} (h : irqLegal p) (sampleRate : Nat) : irqLegal (recompute sampleRate p) := by
  obtain ⟨hsource, henabled⟩ := h
  unfold recompute
  exact ⟨hsource, henabled⟩

/-- A write of `IRQEN` clears what it disables (R473). -/
theorem irqLegal_irqen {p : Pokey} (h : irqLegal p) (v : Byte) :
    irqLegal { p with irqen := v, irqst := p.irqst ||| ~~~v } := by
  obtain ⟨hsource, -⟩ := h
  constructor
  · calc (p.irqst ||| ~~~v) ||| 0x40
      _ = (p.irqst ||| 0x40) ||| ~~~v := by rw [BitVec.or_assoc, BitVec.or_comm (~~~v), ← BitVec.or_assoc]
      _ = 0xFF := by rw [hsource]; exact BitVec.allOnes_or
  · calc ~~~(p.irqst ||| ~~~v) &&& ~~~v
      _ = ~~~p.irqst &&& (v &&& ~~~v) := by rw [BitVec.not_or, BitVec.not_not, BitVec.and_assoc]
      _ = 0 := by rw [BitVec.and_not_self]; exact BitVec.and_zero

theorem irqLegal_pokeyWrite {p : Pokey} (h : irqLegal p) (sampleRate o : Nat) (v : Byte) :
    irqLegal (pokeyWrite sampleRate o v p) := by
  unfold pokeyWrite
  split
  case h_1 | h_3 | h_5 | h_7 | h_9 =>
    apply irqLegal_recompute
    exact h
  case h_10 => exact irqLegal_irqen h v
  all_goals exact h

/-- The keyboard's bit 6 made pending: it is a keyboard source, and it is enabled. -/
theorem irqLegal_keyboard {p : Pokey} (h : irqLegal p) (enabled : p.irqen.getLsbD 6 = true) :
    irqLegal { p with irqst := p.irqst &&& 0xBF } := by
  obtain ⟨hsource, henabled⟩ := h
  have source (v : Byte) : v &&& 0xBF ||| 0x40 = v ||| 0x40 := by revert v; decide
  have bit6 (v : Byte) : v.getLsbD 6 = true → ~~~(0xBF : Byte) &&& ~~~v = 0 := by revert v; decide
  constructor
  · exact (source _).trans hsource
  · rw [BitVec.not_and, BitVec.and_or_distrib_right, henabled, bit6 _ enabled]
    rfl

theorem irqLegal_setKey {p : Pokey} (h : irqLegal p) (code : Byte) (pressed : Bool) : irqLegal (setKey code pressed p) := by
  unfold setKey
  split
  · dsimp only
    split
    · split
      · exact irqLegal_keyboard h ‹_›
      · exact h
    · exact h
  · exact h

theorem noiseLegal_setKey {p : Pokey} (h : noiseLegal p) (code : Byte) (pressed : Bool) :
    noiseLegal (setKey code pressed p) := by
  unfold setKey
  split
  · dsimp only
    split <;> exact h
  · exact h

/-! ## The adapter's control registers (R496, R497) -/

theorem controlLegal_piaWrite {p : Pia} (h : controlLegal p) (o : Nat) (v : Byte) : controlLegal (piaWrite o v p) := by
  have masked : v &&& 0x3F &&& 0xC0 = 0 := by rw [BitVec.and_assoc]; exact BitVec.and_zero
  obtain ⟨ha, hb⟩ := id h
  unfold piaWrite
  split
  · split <;> exact h
  · split <;> exact h
  · exact ⟨masked, hb⟩
  · exact ⟨ha, masked⟩

/-! ## The invariants -/

theorem chipsLegal_ioWrite {s : State} (h : ChipsLegal s) (a : Word) (v : Byte) : ChipsLegal (ioWrite a v s) := by
  unfold ioWrite
  split
  · exact ⟨h.antic, collisionsLegal_gtiaWrite h.collisions _ v, h.noise, h.irq, h.control⟩
  · split
    · exact ⟨h.antic, h.collisions, noiseLegal_pokeyWrite h.noise _ _ v, irqLegal_pokeyWrite h.irq _ _ v, h.control⟩
    · split
      · exact ⟨h.antic, h.collisions, h.noise, h.irq, controlLegal_piaWrite h.control _ v⟩
      · split
        · exact ⟨anticLegal_anticWrite h.antic _ v, h.collisions, h.noise, h.irq, h.control⟩
        · exact h

theorem chipsLegal_applyScan {s : State} (h : ChipsLegal s) (e : ScanEvent) : ChipsLegal (applyScan s e) := by
  cases e with
  | key code pressed =>
    exact ⟨h.antic, h.collisions, noiseLegal_setKey h.noise code pressed, irqLegal_setKey h.irq code pressed, h.control⟩
  | joystick | trigger | consoleKey => exact ⟨h.antic, h.collisions, h.noise, h.irq, h.control⟩

theorem MicroStep.chipsLegal {s t : State} (m : MicroStep s t) (h : ChipsLegal s) : ChipsLegal t := by
  cases m with
  | cpu | store | schedule | orch | sinks => exact ⟨h.antic, h.collisions, h.noise, h.irq, h.control⟩
  | register a v => exact chipsLegal_ioWrite h a v
  | noise => exact ⟨h.antic, h.collisions, noiseLegal_polyStep h.noise, h.irq, h.control⟩
  | latch e => exact chipsLegal_applyScan h e
  | video a frame => exact ⟨frame.anticLegal h.antic, h.collisions, h.noise, h.irq, h.control⟩
  | row y row hy hrow =>
    obtain ⟨hscanline, hnmist, hfb⟩ := h.antic
    exact ⟨⟨hscanline, hnmist, frameBufferWf_setRow hfb hy hrow⟩, h.collisions, h.noise, h.irq, h.control⟩
  | collisions => exact ⟨h.antic, collisionsLegal_collisionBits h.collisions _, h.noise, h.irq, h.control⟩
  | scanline => exact ⟨anticLegal_nextScanline h.antic, h.collisions, h.noise, h.irq, h.control⟩
  | sound p frame =>
    rw [frame]
    exact ⟨h.antic, h.collisions, h.noise, h.irq, h.control⟩

/-- The images and the other arguments of the model, and the halt flag (R31, R61). -/
def arguments (s : State) : Params × Bool := (s.params, s.orch.haltFlag)

theorem MicroStep.arguments_eq {s t : State} (m : MicroStep s t) : arguments t = arguments s := by
  cases m with
  | register a v =>
    obtain ⟨_, _, _, _, e⟩ := ioWrite_frame a v s
    rw [e]
    rfl
  | latch e =>
    have l := applyScan_onlyLatches s e
    rw [arguments, l.params, l.orch, arguments]
  | orch o flag => exact congrArg (Prod.mk s.params) flag
  | cpu | store | noise | schedule | video | row | collisions | scanline | sound | sinks => rfl

end Sys2Proof.Machine

namespace Sys2Proof.Proofs

open Sys2Proof.Machine

/-- Settles O44: every update a step is made of keeps the chips legal. -/
theorem stepKeepsChipsLegal : Obligations.StepKeepsChipsLegal := by
  unfold Obligations.StepKeepsChipsLegal
  intro s t legal hstep
  exact step_keeps (fun _ _ m => m.chipsLegal) hstep legal

/-- Settles O46: no update a step is made of writes an argument or the halt flag. -/
theorem stepKeepsArguments : Obligations.StepKeepsArguments := by
  unfold Obligations.StepKeepsArguments
  intro s t hstep
  have same : arguments t = arguments s :=
    step_keeps (P := fun u => arguments u = arguments s) (fun _ _ m h => m.arguments_eq.trans h) hstep rfl
  exact Prod.mk.inj same

end Sys2Proof.Proofs
end

section
/-! PROOF. The packed status byte (`00_scope.md` R14; `10_state.md` R24). -/

namespace Sys2Proof.Machine

theorem toNat_ofBool_append {w : Nat} (b : Bool) (v : BitVec w) :
    (BitVec.ofBool b ++ v).toNat = b.toNat * 2 ^ w + v.toNat := by
  rw [BitVec.toNat_append, ← Nat.shiftLeft_add_eq_or_of_lt v.isLt, Nat.shiftLeft_eq, BitVec.toNat_ofBool]

/-- The status byte as a number: each flag at the weight of its bit, bit 5 always set (R24). -/
theorem packP_toNat (b : Bool) (c : Cpu) :
    (packP b c).toNat = c.n.toNat * 128 + c.v.toNat * 64 + 32 + b.toNat * 16 + c.d.toNat * 8 + c.i.toNat * 4 +
      c.z.toNat * 2 + c.c.toNat := by
  have one : (1#1) = BitVec.ofBool true := rfl
  rw [packP, one]
  simp only [toNat_ofBool_append, BitVec.toNat_ofBool, Bool.toNat_true]
  omega

/-- Unpacking takes each flag from its bit; bit 5 is ignored (R14). -/
theorem unpackP_packP (b : Bool) (c k : Cpu) :
    unpackP (packP b c) k = { k with n := c.n, v := c.v, b := b, d := c.d, i := c.i, z := c.z, c := c.c } := by
  simp only [unpackP, packP, BitVec.getLsbD_append, BitVec.getLsbD_ofBool, Config.plpLoadsB]
  rfl

end Sys2Proof.Machine

namespace Sys2Proof.Proofs

open Sys2Proof.Machine

/-- Settles O16: the value by the weights of the bits, the unpacking bit by bit. -/
theorem statusByteLayout : Obligations.StatusByteLayout := by
  unfold Obligations.StatusByteLayout
  exact fun b c k => ⟨packP_toNat b c, unpackP_packP b c k⟩

end Sys2Proof.Proofs
end

section
/-! PROOF. The address space (`20_memory.md` R72 to R85, R102): the register window page by page, what a read changes, the map of
the reads, the place of a write, and the canonical form of the three memories. -/

namespace Sys2Proof.Machine

/-! ## The register window, page by page (R83 to R85) -/

/-- The page of an address, as a number. -/
theorem hiByte_eq_iff (a : Word) (p : Byte) : hiByte a = p ↔ a.toNat / 256 = p.toNat := by
  rw [← hiByte_toNat, BitVec.toNat_inj]

section Pages

variable {a : Word} (v : Byte) (s : State)

theorem ioAccess_gtia (h : hiByte a = Config.gtiaPage) :
    ioRead a s = (gtiaRead (a.toNat % 32) s.gtia, s) ∧
      ioWrite a v s = s.setGtia (gtiaWrite (a.toNat % 32) v s.gtia) := by
  constructor <;> simp only [ioRead, ioWrite, h, chipOffset_eq] <;> rfl

theorem ioAccess_pokey (h : hiByte a = Config.pokeyPage) :
    ioRead a s = ((pokeyRead (a.toNat % 16) s.pokey).1, s.setPokey (pokeyRead (a.toNat % 16) s.pokey).2) ∧
      ioWrite a v s = s.setPokey (pokeyWrite s.params.sampleRate (a.toNat % 16) v s.pokey) := by
  constructor <;> simp only [ioRead, ioWrite, h, chipOffset_eq] <;> rfl

theorem ioAccess_pia (h : hiByte a = Config.piaPage) :
    ioRead a s = (piaRead (a.toNat % 4) s.pia, s) ∧ ioWrite a v s = s.setPia (piaWrite (a.toNat % 4) v s.pia) := by
  constructor <;> simp only [ioRead, ioWrite, h, chipOffset_eq] <;> rfl

theorem ioAccess_antic (h : hiByte a = Config.anticPage) :
    ioRead a s = (anticRead (a.toNat % 16) s.antic, s) ∧
      ioWrite a v s = s.setAntic (anticWrite (a.toNat % 16) v s.antic) := by
  constructor <;> simp only [ioRead, ioWrite, h, chipOffset_eq] <;> rfl

/-- A page routed to no chip. -/
theorem ioAccess_noChip (h : hiByte a ∉ [Config.gtiaPage, Config.pokeyPage, Config.piaPage, Config.anticPage]) :
    ioRead a s = (Config.ioSentinel, s) ∧ ioWrite a v s = s := by
  simp only [List.mem_cons, List.not_mem_nil, or_false, not_or] at h
  obtain ⟨hgtia, hpokey, hpia, hantic⟩ := h
  constructor <;> simp only [ioRead, ioWrite, if_neg hgtia, if_neg hpokey, if_neg hpia, if_neg hantic]

end Pages

/-! ## What a read changes (R102, R457) -/

/-- `RANDOM` is the one register of the sound coprocessor whose read changes anything. -/
theorem pokeyRead_state (o : Nat) (p : Pokey) : (pokeyRead o p).2 = if o = 0xA then polyStep p else p := by
  split
  case isTrue h => subst h; rfl
  case isFalse h =>
    unfold pokeyRead
    split
    case h_2 => exact absurd rfl h
    all_goals rfl

theorem selectsRandom_iff (a : Word) : selectsRandom a = true ↔ hiByte a = Config.pokeyPage ∧ a.toNat % 16 = 0xA := by
  simp [selectsRandom, chipOffset_eq, Config.pokeyOffsetBits]

/-- `RANDOM` lies in the register window. -/
theorem inIoWindow_of_selectsRandom {a : Word} (h : selectsRandom a = true) : inIoWindow a = true := by
  obtain ⟨hpage, -⟩ := (selectsRandom_iff a).mp h
  have page : a.toNat / 256 = 0xD2 := (hiByte_eq_iff a _).mp hpage
  exact (inIoWindow_iff a).mpr (by omega)

theorem ioRead_state (a : Word) (s : State) :
    (ioRead a s).2 = if selectsRandom a then s.setPokey (polyStep s.pokey) else s := by
  by_cases hpokey : hiByte a = Config.pokeyPage
  · rw [(ioAccess_pokey 0 s hpokey).1, pokeyRead_state]
    simp only [selectsRandom_iff, hpokey, true_and]
    split <;> rfl
  · have hrandom : ¬ selectsRandom a = true := fun h => hpokey ((selectsRandom_iff a).mp h).1
    rw [if_neg hrandom]
    simp only [ioRead, if_neg hpokey]
    split_ifs <;> rfl

/-- What a memory read leaves: the scan task's latch updates, and for `RANDOM` one step of the noise registers. -/
theorem memRead_state (a : Word) (s : State) :
    (memRead a s).2 =
      if selectsRandom a then (scanTick s).setPokey (polyStep (scanTick s).pokey) else scanTick s := by
  cases hw : inIoWindow a with
  | true => simp only [memRead, routeRead, hw, if_true, ioRead_state]
  | false =>
    have hrandom : ¬ selectsRandom a = true := fun h => by simp [inIoWindow_of_selectsRandom h] at hw
    rw [memRead_store hw, if_neg hrandom]

/-! ## Where an image shows (R72, R75, R80) -/

/-- An image shows at the address. -/
def showsImage (p : Pia) (a : Word) : Bool := showsSelftest p a || showsBasic p a || showsOs p a

/-- Where no image shows, an address outside the register window is RAM. -/
theorem storeByte_of_noImage {s : State} {a : Word} (h : showsImage s.pia a = false) : storeByte s a = ramByte s a.toNat := by
  simp only [showsImage, Bool.or_eq_false_iff] at h
  obtain ⟨⟨hselftest, hbasic⟩, hos⟩ := h
  simp only [storeByte, hselftest, hbasic, hos, Bool.false_eq_true, if_false]

/-- The banking looks at the output latch of port B, which the scan task leaves alone. -/
theorem showsImage_latches {s t : State} (h : OnlyLatches s t) (a : Word) : showsImage t.pia a = showsImage s.pia a := by
  rw [h.pia]
  rfl

/-- Where an image shows, a write into RAM is not seen. -/
theorem storeByte_writeRam_of_image {s : State} {a : Word} (h : showsImage s.pia a = true) (v : Byte) :
    storeByte (writeRam a v s) a = storeByte s a := by
  have os : osByte (writeRam a v s) = osByte s := rfl
  have basic : basicByte (writeRam a v s) = basicByte s := rfl
  simp only [showsImage, Bool.or_eq_true] at h
  obtain (hselftest | hbasic) | hos := h
  · simp [storeByte, os, hselftest]
  · simp [storeByte, os, basic, hbasic]
  · simp [storeByte, os, basic, hos]

/-! ## The place of a write (R77, R81) -/

/-- The canonical form of the backing store after the scan task's events. -/
theorem ram_wf_scanTick {s : State} (h : memoryWf s = true) :
    Memory.wf Config.ramFill Config.ramSize (scanTick s).ram = true := by
  rw [(scanTick_onlyLatches s).ram]
  exact ram_wf_of_memoryWf h

/-- A byte of RAM after a memory write. -/
theorem ramByte_memWrite {s : State} (h : memoryWf s = true) (a : Word) (v : Byte) (n : Nat) :
    ramByte (memWrite a v s) n = if inIoWindow a = false ∧ n = a.toNat then v else ramByte s n := by
  have tick : ramByte (scanTick s) n = ramByte s n := ramByte_latches (scanTick_onlyLatches s).onlyReads n
  cases hw : inIoWindow a with
  | true =>
    obtain ⟨_, _, _, _, frame⟩ := ioWrite_frame a v (scanTick s)
    have same : ramByte (ioWrite a v (scanTick s)) n = ramByte (scanTick s) n := by rw [frame]; rfl
    simp [memWrite_window hw, same, tick]
  | false => simp [memWrite_store hw, ramByte_writeRam (ram_wf_scanTick h), tick]

/-- A read after a write at the same address, as the images show (R78). -/
theorem storeByte_memWrite {s : State} (h : memoryWf s = true) {a : Word} (hw : inIoWindow a = false) (v : Byte) :
    storeByte (memWrite a v s) a = if showsImage s.pia a then storeByte s a else v := by
  have latches := scanTick_onlyLatches s
  rw [memWrite_store hw]
  cases hshows : showsImage s.pia a with
  | true =>
    rw [storeByte_writeRam_of_image (by rw [showsImage_latches latches, hshows]), storeByte_latches latches.onlyReads]
    rfl
  | false =>
    rw [storeByte_of_noImage (by rw [writeRam_pia, showsImage_latches latches, hshows]),
      ramByte_writeRam (ram_wf_scanTick h)]
    simp

/-! ## The canonical form of the memories -/

theorem memoryWf_iff (s : State) : memoryWf s = true ↔
    Memory.wf Config.ramFill Config.ramSize s.ram = true ∧ Memory.wf Config.romFill Config.osRomSize s.params.osRom = true ∧
      Memory.wf Config.romFill Config.basicRomSize s.params.basicRom = true := by
  simp only [memoryWf, Bool.and_eq_true, and_assoc]

/-- Of the updates a step is made of, only a store touches the backing store. -/
theorem MicroStep.ram_cases {s t : State} (m : MicroStep s t) : t.ram = s.ram ∨ ∃ a v, t.ram = (writeRam a v s).ram := by
  cases m with
  | store a v => exact .inr ⟨a, v, rfl⟩
  | register a v =>
    obtain ⟨_, _, _, _, frame⟩ := ioWrite_frame a v s
    exact .inl (by rw [frame])
  | latch e => exact .inl (applyScan_onlyLatches s e).ram
  | cpu | noise | schedule | orch | video | row | collisions | scanline | sound | sinks => exact .inl rfl

theorem MicroStep.params_eq {s t : State} (m : MicroStep s t) : t.params = s.params := congrArg Prod.fst m.arguments_eq

theorem MicroStep.memoryWf {s t : State} (m : MicroStep s t) (h : memoryWf s = true) : memoryWf t = true := by
  obtain ⟨hram, himages⟩ := (memoryWf_iff s).mp h
  rw [memoryWf_iff, m.params_eq]
  refine ⟨?_, himages⟩
  obtain same | ⟨a, v, written⟩ := m.ram_cases
  · rw [same]; exact hram
  · rw [written]; exact ram_wf_writeRam hram a v

end Sys2Proof.Machine

namespace Sys2Proof.Proofs

open Sys2Proof.Machine

/-- Settles O43: of the updates a step is made of, one stores a byte, inside the address space, and none writes an image. -/
theorem stepKeepsMemoryForm : Obligations.StepKeepsMemoryForm := by
  unfold Obligations.StepKeepsMemoryForm
  intro s t wf hstep
  exact step_keeps (P := fun u => memoryWf u = true) (fun _ _ m => m.memoryWf) hstep wf

/-- Settles O5: the state a read leaves, with `RANDOM` and without. -/
theorem readsHaveNoEffect : Obligations.ReadsHaveNoEffect := by
  unfold Obligations.ReadsHaveNoEffect
  intro a s
  refine ⟨memRead_onlyReads a s, fun h => ?_, fun h => ?_, scanTick_onlyLatches s, scanTick_quiet⟩
  · rw [memRead_state, h]; rfl
  · rw [memRead_state, h]; rfl

/-- Settles O6: the register window first, then the map of the store. -/
theorem readMap : Obligations.ReadMap := by
  unfold Obligations.ReadMap
  intro a s n b
  have top : n ≤ 0xFFFF := Nat.le_of_lt_succ a.isLt
  cases hw : inIoWindow a with
  | true =>
    rw [if_pos ((inIoWindow_iff a).mp hw)]
    simp only [memRead, routeRead, hw, if_true]
  | false =>
    have outside : ¬ (0xD000 ≤ n ∧ n ≤ 0xD7FF) := fun h => by simp [(inIoWindow_iff a).mpr h] at hw
    rw [if_neg outside, memRead_store hw]
    simp only [storeByte, showsSelftest_iff, showsBasic_iff, showsOs_iff, top, and_true]
    rfl

/-- Settles O7: a write inside the register window is a register write, any other is one byte of RAM. -/
theorem writeMap : Obligations.WriteMap := by
  unfold Obligations.WriteMap
  intro a v s wf
  obtain ⟨-, -, hparams, -, -⟩ := memWrite_frame a v s
  refine ⟨fun n => ?_, hparams, fun h => memWrite_window ((inIoWindow_iff a).mpr h) v s⟩
  simp only [ramByte_memWrite wf, ← inIoWindow_iff, Bool.not_eq_true]

/-- Settles O8: the write lands in RAM, which shows where no image does. -/
theorem readAfterWrite : Obligations.ReadAfterWrite := by
  unfold Obligations.ReadAfterWrite
  intro a v s wf hw shows
  refine ⟨?_, fun p hp => ?_⟩
  · rw [memRead_store hw]
    exact storeByte_memWrite wf hw v
  · have landed : ramByte (memWrite a v s) a.toNat = v := by rw [ramByte_memWrite wf, if_pos ⟨hw, rfl⟩]
    rw [memRead_store hw]
    exact (storeByte_of_noImage (s := (memWrite a v s).setPia p) hp).trans landed

/-- Settles O9: each page's access, at the low bits of the address that its chip decodes. -/
theorem registerWindow : Obligations.RegisterWindow := by
  unfold Obligations.RegisterWindow
  intro a v s
  have page (p : Byte) (h : a.toNat / 256 = p.toNat) : hiByte a = p := (hiByte_eq_iff a p).mpr h
  refine ⟨fun h => ioAccess_gtia v s (page _ h), fun h => ioAccess_pokey v s (page _ h),
    fun h => ioAccess_pia v s (page _ h), fun h => ioAccess_antic v s (page _ h), fun h => ioAccess_noChip v s ?_⟩
  have unrouted : ∀ p ∈ [0xD1, 0xD5, 0xD6, 0xD7],
      p ∉ [Config.gtiaPage, Config.pokeyPage, Config.piaPage, Config.anticPage].map BitVec.toNat := by decide
  exact fun routed => unrouted _ h (hiByte_toNat a ▸ List.mem_map_of_mem routed)

end Sys2Proof.Proofs
end

section
/-! PROOF. The two decoders and the encoder (`30_encoding.md` R121, R130, R131, R155; `47_display_list.md` R301 to R303).
Both decoders read an opcode byte and then the operand bytes that its entry asks for; what is left for each is that its opcode
table and the encoder agree. -/

namespace Sys2Proof

/-! ## Reading one instruction, whatever the opcode table -/

section Reading

variable {dec : Byte → OpEntry} {op : Byte} {rest : List Byte}

theorem decodeWith_one {i : Instr} (h : dec op = .one i) : decodeWith dec ([op] ++ rest) = .ok (i, rest) := by
  simp only [List.cons_append, decodeWith, h, List.nil_append]

theorem decodeWith_encode3 {f : Word → Instr} (h : dec op = .three f) (w : Word) :
    decodeWith dec (encode3 op w ++ rest) = .ok (f w, rest) := by
  simp only [encode3, List.cons_append, List.nil_append, decodeWith, h, wordOfBytes_bytes]

/-- No opcode byte is refused when two more bytes follow (R130, R303). -/
theorem decodeWith_accepts (b1 b2 : Byte) : ∃ i l, decodeWith dec (op :: b1 :: b2 :: rest) = .ok (i, l) := by
  simp only [decodeWith]
  cases dec op <;> exact ⟨_, _, rfl⟩

/-- Whatever a decoder reads is the instruction of the first byte's entry, and it leaves what follows the operand bytes. -/
theorem eq_complete_of_decodeWith {bytes : List Byte} {i : Instr} (h : decodeWith dec bytes = .ok (i, rest)) :
    ∃ op w, i = (dec op).complete w ∧ (encode3 op w).take ((dec op).operands + 1) ++ rest = bytes := by
  match bytes with
  | op :: tail =>
    refine ⟨op, wordOfBytes (tail.getD 0 0) (tail.getD 1 0), ?_⟩
    simp only [encode3, loByte_wordOfBytes, hiByte_wordOfBytes]
    simp only [decodeWith] at h
    cases he : dec op with
    | one j => simp only [he] at h; cases h; exact ⟨rfl, rfl⟩
    | two f =>
      simp only [he] at h
      match tail with
      | b :: tail => cases h; exact ⟨congrArg f (loByte_wordOfBytes b _).symm, rfl⟩
    | three f =>
      simp only [he] at h
      match tail with
      | lo :: hi :: tail => cases h; exact ⟨rfl, rfl⟩

end Reading

/-! ## The opcode map: the CPU's instructions (R131) -/

/-- The opcode map names no display-list instruction. -/
theorem decodeOpcode_isDisplayList (op : Byte) (w : Word) : ((decodeOpcode op).complete w).isDisplayList = false :=
  eq_of_byteTable_eq (f := fun op => ((decodeOpcode op).complete w).isDisplayList) (g := fun _ => false) rfl op

/-- The CPU's decoder reads back every instruction of its set; a 16-bit operand is put together from its two bytes again. -/
theorem decode_encode (i : Instr) (h : i.isDisplayList = false) (rest : List Byte) :
    decode (encode i ++ rest) = .ok (i, rest) := by
  cases i with
  | oraAbs w | aslAbs w | oraAbsy w | oraAbsx w | aslAbsx w | jsr w | bitAbs w | andAbs w | rolAbs w | andAbsy w | andAbsx w
  | rolAbsx w | jmpAbs w | eorAbs w | lsrAbs w | eorAbsy w | eorAbsx w | lsrAbsx w | jmpInd w | adcAbs w | rorAbs w
  | adcAbsy w | adcAbsx w | rorAbsx w | styAbs w | staAbs w | stxAbs w | staAbsy w | staAbsx w | ldyAbs w | ldaAbs w
  | ldxAbs w | ldaAbsy w | ldyAbsx w | ldaAbsx w | ldxAbsy w | cpyAbs w | cmpAbs w | decAbs w | cmpAbsy w | cmpAbsx w
  | decAbsx w | cpxAbs w | sbcAbs w | incAbs w | sbcAbsy w | sbcAbsx w | incAbsx w =>
    exact decodeWith_encode3 (by rfl) w
  | dlBlank | dlJmp | dlJvb | dlMode | dlModeLms => cases h
  | _ => rfl

/-! ## The decode table of the display list: the video coprocessor's instructions (R301, R303) -/

/-- The decode table and the encoder agree: the instruction of a byte encodes to that byte and its operand bytes. -/
theorem encode_complete_dl (ir : Byte) (w : Word) :
    encode ((decodeDlOpcode ir).complete w) = (encode3 ir w).take ((decodeDlOpcode ir).operands + 1) :=
  eq_of_byteTable_eq (f := fun ir => encode ((decodeDlOpcode ir).complete w))
    (g := fun ir => (encode3 ir w).take ((decodeDlOpcode ir).operands + 1)) rfl ir

/-- The decode table names well-formed display-list instructions only. -/
theorem decodeDlOpcode_wellFormed (ir : Byte) (w : Word) :
    ((decodeDlOpcode ir).complete w).isDisplayList = true ∧ ((decodeDlOpcode ir).complete w).wellFormed = true := by
  obtain ⟨i, h, hi⟩ | ⟨f, h, hf⟩ := Machine.decodeDlOpcode_spec ir
  · rw [h]; exact hi
  · rw [h]; exact hf w

/-- The fields of a display-list instruction byte. -/
theorem dlByte_fields (dli b6 vs hs : Bool) (m : BitVec 4) :
    (dlByte dli b6 vs hs m).extractLsb' 0 4 = m ∧ (dlByte dli b6 vs hs m).getLsbD 7 = dli ∧
    (dlByte dli b6 vs hs m).getLsbD 6 = b6 ∧ (dlByte dli b6 vs hs m).getLsbD 5 = vs ∧
    (dlByte dli b6 vs hs m).getLsbD 4 = hs := by
  revert dli b6 vs hs m
  decide

/-- The byte of every instruction but BLANK: bit 6 tells JVB from JMP, and a mode line with LMS from one without. -/
theorem decodeDlOpcode_dlByte (dli b6 vs hs : Bool) {m : BitVec 4} (hm : m ≠ 0) :
    decodeDlOpcode (dlByte dli b6 vs hs m) =
      if m = 1 then (if b6 then .three (.dlJvb dli vs hs) else .three (.dlJmp dli vs hs))
      else if b6 then .three (.dlModeLms dli vs hs m) else .one (.dlMode dli vs hs m) := by
  obtain ⟨hmode, h7, h6, h5, h4⟩ := dlByte_fields dli b6 vs hs m
  simp only [decodeDlOpcode, hmode, h7, h6, h5, h4, if_neg hm]

theorem decodeDlOpcode_blank (dli : Bool) (count : BitVec 3) :
    decodeDlOpcode (BitVec.ofBool dli ++ (count ++ 0#4)) = .one (.dlBlank dli count) := by
  have fields : ∀ (dli : Bool) (count : BitVec 3), let ir : Byte := BitVec.ofBool dli ++ (count ++ 0#4)
      ir.extractLsb' 0 4 = 0 ∧ ir.extractLsb' 4 3 = count ∧ ir.getLsbD 7 = dli := by decide
  obtain ⟨hmode, hcount, h7⟩ := fields dli count
  simp only [decodeDlOpcode, hmode, hcount, h7, if_true]

/-- A mode line's number is neither BLANK's nor that of the jumps. -/
theorem modeLineNumber_ne {m : BitVec 4} (h : modeLineNumber m = true) : m ≠ 0 ∧ m ≠ 1 := by
  constructor <;> rintro rfl <;> cases h

/-- The video coprocessor's decoder reads back every well-formed instruction of its set. -/
theorem decodeDl_encode (i : Instr) (h : i.isDisplayList = true) (wf : i.wellFormed = true) (rest : List Byte) :
    decodeDl (encode i ++ rest) = .ok (i, rest) := by
  cases i with
  | dlBlank dli count => exact decodeWith_one (decodeDlOpcode_blank dli count)
  | dlJmp dli vs hs addr => exact decodeWith_encode3 (decodeDlOpcode_dlByte dli false vs hs (by decide)) addr
  | dlJvb dli vs hs addr => exact decodeWith_encode3 (decodeDlOpcode_dlByte dli true vs hs (by decide)) addr
  | dlMode dli vs hs m =>
    obtain ⟨hm0, hm1⟩ := modeLineNumber_ne wf
    exact decodeWith_one ((decodeDlOpcode_dlByte dli false vs hs hm0).trans (if_neg hm1))
  | dlModeLms dli vs hs m addr =>
    obtain ⟨hm0, hm1⟩ := modeLineNumber_ne wf
    exact decodeWith_encode3 ((decodeDlOpcode_dlByte dli true vs hs hm0).trans (if_neg hm1)) addr
  | _ => cases h

end Sys2Proof

namespace Sys2Proof.Proofs

open Sys2Proof.Machine

/-- Settles O1: each decoder reads back the instructions of its own set. -/
theorem decodeOfEncode : Obligations.DecodeOfEncode := by
  unfold Obligations.DecodeOfEncode
  intro i rest wf
  unfold decodeAs
  split
  case isTrue h => exact decodeDl_encode i h wf rest
  case isFalse h => exact decode_encode i (eq_false_of_ne_true h) rest

/-- Settles O2: what a decoder reads comes from its opcode table, which agrees with the encoder. -/
theorem encodeOfDecode : Obligations.EncodeOfDecode := by
  unfold Obligations.EncodeOfDecode
  refine ⟨fun _ b1 b2 _ => ⟨decodeWith_accepts b1 b2, decodeWith_accepts b1 b2⟩,
    fun bytes i rest => ⟨fun h => ?_, fun h => ?_⟩⟩
  · obtain ⟨op, w, rfl, hbytes⟩ := eq_complete_of_decodeWith h
    rw [encode_complete]
    exact ⟨decodeOpcode_isDisplayList op w, decodeOpcode_wellFormed op w, hbytes⟩
  · obtain ⟨ir, w, rfl, hbytes⟩ := eq_complete_of_decodeWith h
    obtain ⟨hdl, wf⟩ := decodeDlOpcode_wellFormed ir w
    rw [encode_complete_dl]
    exact ⟨hdl, wf, hbytes⟩

/-- Settles O3: the thirteen byte lists are encodings, evaluated. -/
theorem sampleWordsDecode : Obligations.SampleWordsDecode := by
  unfold Obligations.SampleWordsDecode
  exact ⟨rfl, rfl, rfl, rfl, rfl, rfl, rfl, rfl, rfl, rfl, rfl, rfl, rfl⟩

end Sys2Proof.Proofs
end

section
/-! PROOF. Effective addresses in integers (`30_encoding.md` R143 to R150): page 0 wraps at 256, the other pages at 65536. -/

namespace Sys2Proof.Machine

/-- A zero-page sum stays in page 0. -/
theorem setWidth_add_byte (z x : Byte) : (z + x).setWidth 16 = BitVec.ofNat 16 ((z.toNat + x.toNat) % 256) := by
  rw [← BitVec.ofNat_toNat, BitVec.toNat_add]

/-- An indexed address and its page-cross bit, in integers (R147, R148, R150). -/
theorem indexed_eq (base : Word) (index : Byte) :
    indexed base index = ⟨BitVec.ofNat 16 (base.toNat + index.toNat),
      decide ((base.toNat + index.toNat) % 65536 / 256 ≠ base.toNat / 256)⟩ := by
  have sum : base + index.setWidth 16 = BitVec.ofNat 16 (base.toNat + index.toNat) := by
    rw [BitVec.ofNat_add, BitVec.ofNat_toNat, BitVec.ofNat_toNat, BitVec.setWidth_eq]
  have crosses : (hiByte (BitVec.ofNat 16 (base.toNat + index.toNat)) != hiByte base) =
      decide ((base.toNat + index.toNat) % 65536 / 256 ≠ base.toNat / 256) := by
    rw [Bool.eq_iff_iff, bne_iff_ne, decide_eq_true_iff, ne_eq, hiByte_eq_iff, hiByte_toNat, BitVec.toNat_ofNat]
  simp only [indexed, sum, crosses]

/-- The pointer of the indirect modes: two bytes of page 0, low byte first (R149, R150). -/
theorem read16zp_eq (z : Byte) (s : State) :
    let lo := memRead (BitVec.ofNat 16 z.toNat) s
    let hi := memRead (BitVec.ofNat 16 ((z.toNat + 1) % 256)) lo.2
    read16zp z s = (wordOfBytes lo.1 hi.1, hi.2) := by
  rw [read16zp, setWidth_add_byte, ← BitVec.ofNat_toNat]
  rfl

end Sys2Proof.Machine

namespace Sys2Proof.Proofs

open Sys2Proof.Machine

/-- Settles O4: the indexed sum and the pointer reads, in integers. -/
theorem effectiveAddresses : Obligations.EffectiveAddresses := by
  unfold Obligations.EffectiveAddresses
  intro s z w
  refine ⟨rfl, ?_, ?_, rfl, ?_, ?_, ?_, ?_⟩
  · rw [effAddr, setWidth_add_byte]
  · rw [effAddr, setWidth_add_byte]
  · rw [effAddr, indexed_eq]
  · rw [effAddr, indexed_eq]
  · intro p lo hi
    have pointer := read16zp_eq (z + s.cpu.x) s
    rw [BitVec.toNat_add] at pointer
    rw [effAddr, pointer]
    rfl
  · intro lo hi base
    have pointer : read16zp z s = (wordOfBytes lo.1 hi.1, hi.2) := read16zp_eq z s
    simp only [effAddr, pointer, indexed_eq, wordOfBytes_toNat]
    rfl

end Sys2Proof.Proofs
end

section
/-! PROOF. The undocumented opcodes (`30_encoding.md` R155; `46_undocumented.md` R290): the writes that `UNDOC_EXEC` gives go
through the router one after the other, and each row of `undocTable` runs `undocStep` on its own byte. -/

namespace Sys2Proof.Machine

/-! ## A sequence of writes -/

/-- Writes through the router change memory, chips and schedule only. -/
theorem undocWrites_frame (l : List (Word × Byte)) (s : State) :
    (undocWrites l s).orch = s.orch ∧ (undocWrites l s).params = s.params ∧ (undocWrites l s).sinks = s.sinks ∧
      (undocWrites l s).collisionPass = s.collisionPass := by
  induction l generalizing s with
  | nil => exact ⟨rfl, rfl, rfl, rfl⟩
  | cons x l ih =>
    obtain ⟨-, orch, params, sinks, pass⟩ := memWrite_frame x.1 x.2 s
    obtain ⟨orch', params', sinks', pass'⟩ := ih (memWrite x.1 x.2 s)
    exact ⟨orch'.trans orch, params'.trans params, sinks'.trans sinks, pass'.trans pass⟩

/-- A byte of RAM that no write names is as before. -/
theorem ramByte_undocWrites {l : List (Word × Byte)} {s : State} {a : Nat} (h : memoryWf s = true)
    (ha : ∀ x ∈ l, x.1.toNat ≠ a) : ramByte (undocWrites l s) a = ramByte s a := by
  induction l generalizing s with
  | nil => rfl
  | cons x l ih =>
    have wf : memoryWf (memWrite x.1 x.2 s) = true :=
      (memWrite_moves x.1 x.2 s).keeps (P := fun u => memoryWf u = true) (fun _ _ m => m.memoryWf) h
    have first : ramByte (memWrite x.1 x.2 s) a = ramByte s a := by
      rw [ramByte_memWrite h, if_neg fun k => ha x List.mem_cons_self k.2.symm]
    exact (ih wf fun y hy => ha y (List.mem_cons_of_mem _ hy)).trans first

/-! ## The table -/

/-- Every row of the table decodes from its byte alone. -/
theorem decode_of_mem_undocTable : ∀ p ∈ undocTable, decode [p.1] = .ok (p.2, []) := by
  have rows : undocTable.map (fun p => decode [p.1]) = undocTable.map fun p => .ok (p.2, []) := rfl
  exact List.map_inj_left.mp rows

/-- Every row of the table means what `UNDOC_EXEC` gives for its byte. -/
theorem exec_of_mem_undocTable (s : State) : ∀ p ∈ undocTable, exec p.2 s = undocStep p.1 s := by
  have rows : undocTable.map (fun p => exec p.2 s) = undocTable.map fun p => undocStep p.1 s := rfl
  exact List.map_inj_left.mp rows

end Sys2Proof.Machine

namespace Sys2Proof.Proofs

open Sys2Proof.Machine

/-- Settles O31: the table row by row, then the one step they share. -/
theorem undocumentedOpcodesComplete : Obligations.UndocumentedOpcodesComplete := by
  unfold Obligations.UndocumentedOpcodesComplete
  refine ⟨rfl, decode_of_mem_undocTable, ?_⟩
  intro s p hp e
  refine ⟨_, exec_of_mem_undocTable s p hp, rfl, ?_⟩
  obtain ⟨orch, params, sinks, pass⟩ := undocWrites_frame e.writes s
  have cycles : spent (1 + e.cyclesExtra) (undocWrites e.writes s) = spent (1 + e.cyclesExtra) s := by rw [spent, orch, spent]
  refine ⟨cycles, params, sinks, pass, ⟨rfl, rfl, rfl, rfl, rfl, rfl⟩, fun a ha wf => ramByte_undocWrites wf ha⟩

end Sys2Proof.Proofs
end

section
/-! PROOF. Loads, stores and the register instructions (`40_load_store_transfer.md` R171 to R182; `42_arithmetic.md` R214 to
R217; `45_flag_system.md` R271 to R278): an instruction completes as the shape that its arm of `exec` calls. -/

namespace Sys2Proof.Machine

/-! ## From an arm of `exec` to what completes -/

section Shapes

variable {i : Instr} {s : State} {cost : Nat}

theorem readsAs_of_exec {o : MemMode} {f : Byte → Cpu → Cpu} {pen : Nat} (h : exec i s = readInstr cost pen f o s) :
    ReadsAs o f cost pen i s := by
  rw [ReadsAs, h]
  exact readInstr_spec cost pen f o s

theorem storesAs_of_exec {o : MemMode} {v : Byte} (wf : memoryWf s = true) (h : exec i s = storeInstr cost v o s) :
    StoresAs o v cost i s := by
  rw [StoresAs, h]
  exact storeInstr_spec wf cost v o

theorem computes_of_exec_imm {f : Byte → Cpu → Cpu} {m : Byte} (h : exec i s = immInstr cost f m s) :
    Computes s s (f m s.cpu) cost (exec i s) := by
  rw [h]
  exact immInstr_spec cost f m s

/-- An arm without an operand ends with the register file `k`, which the caller may spell as `c`. -/
theorem computes_of_exec_setCpu {k c : Cpu} (h : exec i s = .next (charge cost (s.setCpu k))) (hk : k = c) :
    Computes s s c cost (exec i s) := by
  rw [h, hk]
  exact impliedInstr_spec cost (fun _ => c) s

end Shapes

/-- The eight forms of an accumulator instruction complete when its eight arms call the read shapes with one effect. -/
theorem accumulatorForms_of_exec {f : Byte → Cpu → Cpu} {imm zp zpx indx indy : Byte → Instr} {abs absx absy : Word → Instr}
    (h : ∀ (s : State) (m z : Byte) (w : Word),
      exec (imm m) s = immInstr 2 f m s ∧ exec (zp z) s = readInstr 3 0 f (.zp z) s ∧
      exec (zpx z) s = readInstr 4 0 f (.zpx z) s ∧ exec (abs w) s = readInstr 4 0 f (.abs w) s ∧
      exec (absx w) s = readInstr 4 1 f (.absx w) s ∧ exec (absy w) s = readInstr 4 1 f (.absy w) s ∧
      exec (indx z) s = readInstr 6 0 f (.indx z) s ∧ exec (indy z) s = readInstr 5 1 f (.indy z) s) :
    AccumulatorForms f imm zp zpx abs absx absy indx indy := by
  intro s m z w
  obtain ⟨himm, hzp, hzpx, habs, habsx, habsy, hindx, hindy⟩ := h s m z w
  exact ⟨computes_of_exec_imm himm, readsAs_of_exec hzp, readsAs_of_exec hzpx, readsAs_of_exec habs, readsAs_of_exec habsx,
    readsAs_of_exec habsy, readsAs_of_exec hindx, readsAs_of_exec hindy⟩

/-! ## A register loaded, with N and Z (R14) -/

theorem loadA_eq : loadA = fun v c => { c with a := v, n := v.getLsbD 7, z := decide (v = 0) } := rfl

theorem loadX_eq : loadX = fun v c => { c with x := v, n := v.getLsbD 7, z := decide (v = 0) } := rfl

theorem loadY_eq : loadY = fun v c => { c with y := v, n := v.getLsbD 7, z := decide (v = 0) } := rfl

/-- An increment gives zero only from 0xFF. -/
theorem decide_succ_eq_zero (v : Byte) : decide (v + 1 = 0) = decide (v = 0xFF) :=
  decide_eq_decide.mpr add_eq_zero_iff_eq_neg

/-- A decrement gives zero only from 1. -/
theorem decide_pred_eq_zero (v : Byte) : decide (v - 1 = 0) = decide (v = 1) :=
  decide_eq_decide.mpr sub_eq_zero

theorem loadX_succ (c : Cpu) : loadX (c.x + 1) c =
    { c with x := c.x + 1, n := (c.x + 1).getLsbD 7, z := decide (c.x = 0xFF) } := by
  rw [loadX_eq, ← decide_succ_eq_zero]

theorem loadY_succ (c : Cpu) : loadY (c.y + 1) c =
    { c with y := c.y + 1, n := (c.y + 1).getLsbD 7, z := decide (c.y = 0xFF) } := by
  rw [loadY_eq, ← decide_succ_eq_zero]

theorem loadX_pred (c : Cpu) : loadX (c.x - 1) c =
    { c with x := c.x - 1, n := (c.x - 1).getLsbD 7, z := decide (c.x = 1) } := by
  rw [loadX_eq, ← decide_pred_eq_zero]

theorem loadY_pred (c : Cpu) : loadY (c.y - 1) c =
    { c with y := c.y - 1, n := (c.y - 1).getLsbD 7, z := decide (c.y = 1) } := by
  rw [loadY_eq, ← decide_pred_eq_zero]

end Sys2Proof.Machine

namespace Sys2Proof.Proofs

open Sys2Proof.Machine

/-- Settles O11: each form is a read shape with `loadA`, `loadX` or `loadY` for its effect. -/
theorem loadsCompleteWithTheirOperand : Obligations.LoadsCompleteWithTheirOperand := by
  unfold Obligations.LoadsCompleteWithTheirOperand
  rw [← loadA_eq, ← loadX_eq, ← loadY_eq]
  refine ⟨accumulatorForms_of_exec fun _ _ _ _ => ⟨rfl, rfl, rfl, rfl, rfl, rfl, rfl, rfl⟩, fun s m z w => ⟨?_, ?_⟩⟩
  · exact ⟨computes_of_exec_imm rfl, readsAs_of_exec rfl, readsAs_of_exec rfl, readsAs_of_exec rfl, readsAs_of_exec rfl⟩
  · exact ⟨computes_of_exec_imm rfl, readsAs_of_exec rfl, readsAs_of_exec rfl, readsAs_of_exec rfl, readsAs_of_exec rfl⟩

/-- Settles O12: each form is the store shape with the byte of its register. -/
theorem storesCompleteWithOneByte : Obligations.StoresCompleteWithOneByte := by
  unfold Obligations.StoresCompleteWithOneByte
  intro s z w wf
  and_intros <;> exact storesAs_of_exec wf rfl

/-- Settles O13: the arms write the registers as the statement does, but for the zero flag of an increment or decrement, which
the statement reads off the old value. -/
theorem registerInstructionsComplete : Obligations.RegisterInstructionsComplete := by
  unfold Obligations.RegisterInstructionsComplete
  intro s c does
  have inx : does .inx _ := computes_of_exec_setCpu rfl (loadX_succ c)
  have iny : does .iny _ := computes_of_exec_setCpu rfl (loadY_succ c)
  have dex : does .dex _ := computes_of_exec_setCpu rfl (loadX_pred c)
  have dey : does .dey _ := computes_of_exec_setCpu rfl (loadY_pred c)
  refine ⟨?tax, ?tay, ?txa, ?tya, ?tsx, ?txs, inx, iny, dex, dey, ?clc, ?sec, ?cli, ?sei, ?cld, ?sed, ?clv, ?nop⟩
  all_goals exact computes_of_exec_setCpu rfl rfl

end Sys2Proof.Proofs
end

section
/-! PROOF. The stack instructions (`41_stack.md` R190 to R194): PHA and PHP are one push each, PLA and PLP one pull whose byte
goes into the register file. -/

namespace Sys2Proof.Machine

section Shapes

variable {i : Instr} {s : State} {cost : Nat}

/-- An arm of `exec` that pushes the byte `v` (R190). -/
theorem pushes_of_exec_push8 {v : Byte} (wf : memoryWf s = true) (h : exec i s = .next (charge cost (push8 v s))) :
    Pushes s [(stackAddr s.cpu.sp, v)] { s.cpu with sp := s.cpu.sp - 1 } cost (exec i s) := by
  have push : push8 v s =
      put (scanTick s) { s.cpu with sp := s.cpu.sp - 1 } (stored [(stackAddr s.cpu.sp, v)] s.ram) := push8_spec v s
  rw [h, push]
  exact pushes_put _ cost wf (List.pairwise_singleton _ _) (scanTick_onlyLatches s)

/-- An arm of `exec` that pulls a byte and puts it into the register file by `f` (R190). -/
theorem computes_of_exec_pull8 {f : Byte → Cpu → Cpu}
    (h : exec i s = .next (charge cost ((pull8 s).2.setCpu (f (pull8 s).1 (pull8 s).2.cpu)))) :
    Computes s (scanTick s)
      (f (ramByte s (0x0100 + (s.cpu.sp + 1).toNat)) { s.cpu with sp := s.cpu.sp + 1 }) cost (exec i s) := by
  have latches := scanTick_onlyLatches s
  refine ⟨?_, latches.onlyReads⟩
  rw [h, pull8_spec, stackAddr_toNat, spent, ← latches.orch]
  rfl

end Shapes

/-- Every flag from its bit of the status byte (R14). -/
theorem unpackP_eq : unpackP = fun v c => { c with
    n := v.getLsbD 7, v := v.getLsbD 6, b := v.getLsbD 4, d := v.getLsbD 3, i := v.getLsbD 2, z := v.getLsbD 1
    c := v.getLsbD 0 } := rfl

end Sys2Proof.Machine

namespace Sys2Proof.Proofs

open Sys2Proof.Machine

/-- Settles O14: one push each, of A and of the status byte with bit 4 set. -/
theorem pushesComplete : Obligations.PushesComplete := by
  unfold Obligations.PushesComplete
  intro s wf
  have pha : exec .pha s = .next (charge 3 (push8 s.cpu.a s)) := rfl
  have php : exec .php s = .next (charge 3 (push8 (packP true s.cpu) s)) := rfl
  exact ⟨stackAddr_toNat _, pushes_of_exec_push8 wf pha, pushes_of_exec_push8 wf php⟩

/-- Settles O15: one pull each, its byte put into the register file by `loadA` or by `unpackP`. -/
theorem pullsComplete : Obligations.PullsComplete := by
  unfold Obligations.PullsComplete
  intro s
  have pla := computes_of_exec_pull8 (i := .pla) (s := s) (f := loadA) rfl
  have plp := computes_of_exec_pull8 (i := .plp) (s := s) (f := unpackP) rfl
  rw [loadA_eq] at pla
  rw [unpackP_eq] at plp
  exact ⟨scanTick s, scanTick_onlyLatches s, pla, plp⟩

end Sys2Proof.Proofs
end

section
/-! PROOF. The arithmetic instructions (`42_arithmetic.md` R202, R205, R209 to R213): each form runs as the shape that its arm of
`exec` calls, with `adc`, `sbc`, a compare, `increment` or `decrement` for its effect. -/

namespace Sys2Proof.Machine

theorem modifiesAs_of_exec {i : Instr} {s : State} {cost : Nat} {o : MemMode} {f : Byte → Cpu → Byte × Cpu}
    (wf : memoryWf s = true) (h : exec i s = rmwInstr cost f o s) : ModifiesAs o f cost i s := by
  rw [ModifiesAs, h]
  exact rmwInstr_spec wf cost f o

/-- The four memory forms of a read-modify-write instruction complete when its four arms call the shape with one effect. -/
theorem modifyForms_of_exec {f : Byte → Cpu → Byte × Cpu} {zp zpx : Byte → Instr} {abs absx : Word → Instr}
    (h : ∀ (s : State) (z : Byte) (w : Word),
      exec (zp z) s = rmwInstr 5 f (.zp z) s ∧ exec (zpx z) s = rmwInstr 6 f (.zpx z) s ∧
      exec (abs w) s = rmwInstr 6 f (.abs w) s ∧ exec (absx w) s = rmwInstr 7 f (.absx w) s) :
    ModifyForms f zp zpx abs absx := by
  intro s z w wf
  obtain ⟨hzp, hzpx, habs, habsx⟩ := h s z w
  exact ⟨modifiesAs_of_exec wf hzp, modifiesAs_of_exec wf hzpx, modifiesAs_of_exec wf habs, modifiesAs_of_exec wf habsx⟩

/-! ## The effects, in the statements' terms -/

theorem adc_eq : adc = fun m c =>
    let u := if c.d then addDec c.a m c.c else addBin c.a m c.c
    { c with a := u.r, n := u.n, v := u.v, z := u.z, c := u.c } := rfl

theorem sbc_eq : sbc = fun m c =>
    let u := if c.d then subDec c.a m c.c else subBin c.a m c.c
    { c with a := u.r, n := u.n, v := u.v, z := u.z, c := u.c } := rfl

/-- The difference is zero when the operands are equal. -/
theorem cmpFlags_eq : cmpFlags = fun r m c =>
    { c with n := (r - m).getLsbD 7, z := decide (r = m), c := decide (m.toNat ≤ r.toNat) } := by
  funext r m c
  have zero : (r - m == 0) = decide (r = m) := decide_eq_decide.mpr sub_eq_zero
  rw [cmpFlags, setNZ, zero]

theorem ofNat_toNat_add (v : Byte) (k : Nat) : BitVec.ofNat 8 (v.toNat + k) = v + BitVec.ofNat 8 k := by
  rw [BitVec.ofNat_add, BitVec.ofNat_toNat, BitVec.setWidth_eq]

theorem increment_eq : increment = fun v c =>
    let r := BitVec.ofNat 8 (v.toNat + 1)
    (r, { c with n := r.getLsbD 7, z := decide (r = 0) }) := by
  funext v c
  rw [ofNat_toNat_add]
  rfl

/-- Modulo 256, one less is 255 more. -/
theorem decrement_eq : decrement = fun v c =>
    let r := BitVec.ofNat 8 (v.toNat + 255)
    (r, { c with n := r.getLsbD 7, z := decide (r = 0) }) := by
  funext v c
  have pred : v - 1 = v + BitVec.ofNat 8 255 := sub_eq_add_neg v 1
  rw [ofNat_toNat_add, ← pred]
  rfl

end Sys2Proof.Machine

namespace Sys2Proof.Proofs

open Sys2Proof.Machine

/-- Settles O17: the arms call the read shapes with `adc` or `sbc`, which choose by D as the statement does. -/
theorem addSubtractComplete : Obligations.AddSubtractComplete := by
  unfold Obligations.AddSubtractComplete
  rw [← adc_eq, ← sbc_eq]
  exact ⟨accumulatorForms_of_exec fun _ _ _ _ => ⟨rfl, rfl, rfl, rfl, rfl, rfl, rfl, rfl⟩,
    accumulatorForms_of_exec fun _ _ _ _ => ⟨rfl, rfl, rfl, rfl, rfl, rfl, rfl, rfl⟩⟩

/-- Settles O22: the arms call the read shapes with the compare of their register. -/
theorem comparesComplete : Obligations.ComparesComplete := by
  unfold Obligations.ComparesComplete
  intro cmp
  rw [show cmp = cmpFlags from cmpFlags_eq.symm]
  refine ⟨accumulatorForms_of_exec fun _ _ _ _ => ⟨rfl, rfl, rfl, rfl, rfl, rfl, rfl, rfl⟩, fun s m z w => ?_⟩
  exact ⟨computes_of_exec_imm (f := cmpX) rfl, readsAs_of_exec rfl, readsAs_of_exec rfl,
    computes_of_exec_imm (f := cmpY) rfl, readsAs_of_exec rfl, readsAs_of_exec rfl⟩

/-- Settles O24: the arms call the read-modify-write shape with `increment` or `decrement`. -/
theorem incrementDecrementMemory : Obligations.IncrementDecrementMemory := by
  unfold Obligations.IncrementDecrementMemory
  have inc : ModifyForms increment .incZp .incZpx .incAbs .incAbsx :=
    modifyForms_of_exec fun _ _ _ => ⟨rfl, rfl, rfl, rfl⟩
  have dec : ModifyForms decrement .decZp .decZpx .decAbs .decAbsx :=
    modifyForms_of_exec fun _ _ _ => ⟨rfl, rfl, rfl, rfl⟩
  rw [increment_eq] at inc
  rw [decrement_eq] at dec
  exact ⟨inc, dec⟩

end Sys2Proof.Proofs
end

section
/-! PROOF. Binary addition and subtraction in integers (`42_arithmetic.md` R200 to R206): the sign of a byte is its bit 7, and a
subtraction is the addition of the complement. -/

namespace Sys2Proof.Machine

/-! ## Bit 7 as a sign (R200) -/

theorem getLsbD_seven (v : Byte) : v.getLsbD 7 = decide (v.toInt < 0) := by
  rw [← BitVec.msb_eq_toInt, BitVec.msb_eq_getLsbD_last]

/-- The two halves of the byte's range (R200). -/
theorem toInt_eq_toNat_or (v : Byte) :
    v.toInt = v.toNat ∧ v.toNat < 128 ∨ v.toInt = v.toNat - 256 ∧ 128 ≤ v.toNat ∧ v.toNat < 256 := by
  have := v.isLt
  rw [BitVec.toInt_eq_toNat_cond]
  split <;> omega

/-- The overflow bit of an addition: the operands have one sign, the result the other. -/
theorem overflow_bit (a m r : Byte) : ((~~~(a ^^^ m)) &&& (a ^^^ r)).getLsbD 7 =
    (a.getLsbD 7 == m.getLsbD 7 && a.getLsbD 7 != r.getLsbD 7) := by
  simp only [BitVec.getLsbD_and, BitVec.getLsbD_not, BitVec.getLsbD_xor]
  cases a.getLsbD 7 <;> cases m.getLsbD 7 <;> rfl

/-! ## Addition (R203) -/

section Addition

variable (a m : Byte) (c : Bool)

theorem addBin_r_toNat : (addBin a m c).r.toNat = (a.toNat + m.toNat + c.toNat) % 256 := BitVec.toNat_ofNat _ 8

theorem addBin_n : (addBin a m c).n = decide ((addBin a m c).r.toInt < 0) := getLsbD_seven _

/-- Signed overflow: the signed sum differs from the result's signed value by 0 or by 256 one way or the other. -/
theorem addBin_v : (addBin a m c).v =
    decide (a.toInt + m.toInt + c.toNat < -128 ∨ 127 < a.toInt + m.toInt + c.toNat) := by
  have hv : (addBin a m c).v = _ := overflow_bit a m (addBin a m c).r
  rw [hv, getLsbD_seven, getLsbD_seven, getLsbD_seven, Bool.eq_iff_iff]
  simp only [Bool.and_eq_true, beq_iff_eq, bne_iff_ne, ne_eq, decide_eq_decide, decide_eq_true_eq]
  have hr := addBin_r_toNat a m c
  have hc := c.toNat_le
  have sa := toInt_eq_toNat_or a
  have sm := toInt_eq_toNat_or m
  have sr := toInt_eq_toNat_or (addBin a m c).r
  omega

end Addition

/-! ## Subtraction (R205, R206) -/

/-- The borrow of a subtraction is the carry in, inverted (R205). -/
theorem toNat_borrow (c : Bool) : (!c).toNat = 1 - c.toNat := by cases c <;> rfl

/-- The complement in numerals, as `omega` reads them. -/
theorem toNat_complement (m : Byte) : (~~~m).toNat = 255 - m.toNat := BitVec.toNat_not

theorem toInt_complement (m : Byte) : (~~~m).toInt = -1 - m.toInt := by
  have hn := toNat_complement m
  have sm := toInt_eq_toNat_or m
  have sn := toInt_eq_toNat_or (~~~m)
  omega

/-- Subtraction is the addition of the complement (R205). -/
theorem subBin_eq_addBin_not (a m : Byte) (c : Bool) : subBin a m c = addBin a (~~~m) c := by
  have hn := toNat_complement m
  have hm := m.isLt
  have hc := c.toNat_le
  have result : BitVec.ofInt 8 (a.toNat - m.toNat - (1 - c.toNat)) = BitVec.ofNat 8 (a.toNat + (~~~m).toNat + c.toNat) := by
    apply BitVec.eq_of_toNat_eq
    rw [BitVec.toNat_ofInt, BitVec.toNat_ofNat, hn]
    omega
  have signs : a ^^^ m = ~~~(a ^^^ ~~~m) := by rw [BitVec.not_xor_right, BitVec.not_not]
  have carry : (0 : Int) ≤ a.toNat - m.toNat - (1 - c.toNat) ↔ 255 < a.toNat + (~~~m).toNat + c.toNat := by
    rw [hn]
    omega
  simp only [subBin, addBin, result, signs, carry]

section Subtraction

variable (a m : Byte) (c : Bool)

theorem subBin_r_toNat : ((subBin a m c).r.toNat : Int) = ((a.toNat : Int) - m.toNat - (!c).toNat) % 256 := by
  have hm := m.isLt
  have hc := c.toNat_le
  rw [subBin_eq_addBin_not, addBin_r_toNat, toNat_complement, toNat_borrow]
  omega

theorem subBin_c : (subBin a m c).c = decide (m.toNat + (!c).toNat ≤ a.toNat) := by
  have hc := c.toNat_le
  rw [toNat_borrow, subBin, decide_eq_decide]
  omega

theorem subBin_v : (subBin a m c).v =
    decide (a.toInt - m.toInt - (!c).toNat < -128 ∨ 127 < a.toInt - m.toInt - (!c).toNat) := by
  have hc := c.toNat_le
  have sum : a.toInt + (-1 - m.toInt) + c.toNat = a.toInt - m.toInt - (!c).toNat := by
    rw [toNat_borrow]
    omega
  rw [subBin_eq_addBin_not, addBin_v, toInt_complement, sum]

end Subtraction

end Sys2Proof.Machine

namespace Sys2Proof.Proofs

open Sys2Proof.Machine

/-- Settles O18: the result and the carry are the natural-number sum, the overflow bit read through the signs. -/
theorem binaryAddition : Obligations.BinaryAddition := by
  unfold Obligations.BinaryAddition
  exact fun a m c => ⟨addBin_r_toNat a m c, rfl, addBin_v a m c, rfl, addBin_n a m c⟩

/-- Settles O19: everything follows from the addition of the complement. -/
theorem binarySubtraction : Obligations.BinarySubtraction := by
  unfold Obligations.BinarySubtraction
  intro a m c
  have complement : m ^^^ 0xFF = ~~~m := BitVec.xor_allOnes
  rw [complement]
  exact ⟨subBin_r_toNat a m c, subBin_c a m c, subBin_v a m c, rfl, getLsbD_seven _, subBin_eq_addBin_not a m c⟩

end Sys2Proof.Proofs
end

section
/-! PROOF. Decimal addition and subtraction in integers (`42_arithmetic.md` R204, R207): the adjusted sums and differences on all
operands, and their digits when the operands are valid BCD. -/

namespace Sys2Proof.Machine

/-- The high nibble at its weight. -/
theorem toNat_highNibble (v : Byte) : (v &&& 0xF0).toNat = v.toNat / 16 * 16 :=
  eq_of_byteTable_eq (f := fun v => (v &&& 0xF0).toNat) (g := fun v => v.toNat / 16 * 16) rfl v

/-- The number whose decimal digits are the two nibbles. -/
def bcdValue (n : Nat) : Nat := n / 16 * 10 + n % 16

theorem bcdValue_digits {tens units : Nat} (h : units ≤ 9) : bcdValue (tens * 16 + units) = tens * 10 + units := by
  rw [bcdValue]
  omega

/-- Both nibbles are decimal digits. -/
def validBcd (n : Nat) : Prop := n % 16 ≤ 9 ∧ n / 16 ≤ 9

/-! ## Addition (R204) -/

/-- The sum with the units digit adjusted, from which N and V are taken. -/
def halfAdjustedSum (a m c : Nat) : Nat :=
  let units := a % 16 + m % 16 + c
  a / 16 * 16 + m / 16 * 16 + (if units > 9 then (units + 6) % 16 + 16 else units)

/-- The sum with both digits adjusted, before it is cut to a byte. -/
def adjustedSum (a m c : Nat) : Nat :=
  let t := halfAdjustedSum a m c
  if t > 0x9F then t + 0x60 else t

section Addition

variable (a m : Byte) (c : Bool)

theorem addDec_eq : addDec a m c =
    let half := BitVec.ofNat 8 (halfAdjustedSum a.toNat m.toNat c.toNat)
    { r := BitVec.ofNat 8 (adjustedSum a.toNat m.toNat c.toNat)
      n := half.getLsbD 7
      v := ((~~~(a ^^^ m)) &&& (a ^^^ half)).getLsbD 7
      z := BitVec.ofNat 8 (a.toNat + m.toNat + c.toNat) == 0
      c := decide (0xFF < adjustedSum a.toNat m.toNat c.toNat) } := by
  rw [addDec, toNat_highNibble, toNat_highNibble]
  rfl

theorem addDec_r_toNat : (addDec a m c).r.toNat = adjustedSum a.toNat m.toNat c.toNat % 256 := by
  rw [addDec_eq]
  exact BitVec.toNat_ofNat _ 8

theorem addDec_c : (addDec a m c).c = decide (0xFF < adjustedSum a.toNat m.toNat c.toNat) := by rw [addDec_eq]

theorem addDec_z : (addDec a m c).z = decide ((a.toNat + m.toNat + c.toNat) % 256 = 0) := by
  have zero (n : Nat) : BitVec.ofNat 8 n = 0 ↔ n % 256 = 0 := by rw [← BitVec.toNat_inj, BitVec.toNat_ofNat]; rfl
  rw [addDec_eq]
  exact decide_eq_decide.mpr (zero _)

theorem addDec_n : (addDec a m c).n = (halfAdjustedSum a.toNat m.toNat c.toNat).testBit 7 := by
  simp only [addDec_eq, BitVec.getLsbD_ofNat, Nat.reduceLT, decide_true, Bool.true_and]

theorem addDec_v : (addDec a m c).v =
    (a.getLsbD 7 == m.getLsbD 7 && a.getLsbD 7 != (halfAdjustedSum a.toNat m.toNat c.toNat).testBit 7) := by
  rw [← addDec_n, addDec_eq]
  exact overflow_bit a m _

end Addition

/-- Of valid BCD operands the sum and the adjusted sum have the same digits, one in base 10, the other in base 16. -/
theorem exists_digits_of_sum {a m c : Nat} (ha : validBcd a) (hm : validBcd m) (hc : c ≤ 1) :
    ∃ carry tens units, carry ≤ 1 ∧ tens ≤ 9 ∧ units ≤ 9 ∧
      bcdValue a + bcdValue m + c = carry * 100 + tens * 10 + units ∧
      adjustedSum a m c = carry * 256 + tens * 16 + units := by
  obtain ⟨ha0, ha1⟩ := ha
  obtain ⟨hm0, hm1⟩ := hm
  let units := a % 16 + m % 16 + c
  let tens := a / 16 + m / 16 + units / 10
  have hu : units ≤ 19 := by omega
  have value : bcdValue a + bcdValue m + c = tens * 10 + units % 10 := by
    simp only [bcdValue]
    omega
  have half : halfAdjustedSum a m c = tens * 16 + units % 10 := by
    simp only [halfAdjustedSum]
    split <;> omega
  refine ⟨tens / 10, tens % 10, units % 10, by omega, by omega, by omega, by omega, ?_⟩
  simp only [adjustedSum, half]
  split <;> omega

/-- On valid BCD operands: the decimal sum modulo 100 in valid digits, and C when it exceeds 99 (R204). -/
theorem addDec_of_validBcd {a m : Byte} (c : Bool) (ha : validBcd a.toNat) (hm : validBcd m.toNat) :
    let u := addDec a m c
    let sum := bcdValue a.toNat + bcdValue m.toNat + c.toNat
    bcdValue u.r.toNat = sum % 100 ∧ u.r.toNat % 16 ≤ 9 ∧ u.c = decide (sum > 99) := by
  obtain ⟨carry, tens, units, hcarry, htens, hunits, value, adjusted⟩ := exists_digits_of_sum ha hm c.toNat_le
  have result : (addDec a m c).r.toNat = tens * 16 + units := by
    rw [addDec_r_toNat, adjusted]
    omega
  refine ⟨?_, ?_, ?_⟩
  · rw [result, value, bcdValue_digits hunits]
    omega
  · rw [result]
    omega
  · rw [addDec_c, adjusted, value, decide_eq_decide]
    omega

/-! ## Subtraction (R207) -/

/-- The difference with the units digit adjusted; `b` is the borrow in. -/
def halfAdjustedDifference (a m b : Nat) : Int :=
  let units := (a % 16 : Int) - (m % 16 : Int) - b
  (a / 16 * 16 : Int) - (m / 16 * 16 : Int) + (if units < 0 then (units - 6) % 16 - 16 else units)

/-- The difference with both digits adjusted, before it is cut to a byte. -/
def adjustedDifference (a m b : Nat) : Int :=
  let t := halfAdjustedDifference a m b
  if t < 0 then t - 0x60 else t

/-- The flags are those of the binary subtraction. -/
theorem subDec_eq (a m : Byte) (c : Bool) : subDec a m c =
    { subBin a m c with r := BitVec.ofInt 8 (adjustedDifference a.toNat m.toNat (!c).toNat) } := by
  have borrow : (1 - c.toNat : Int) = (!c).toNat := by cases c <;> rfl
  rw [subDec, borrow, toNat_highNibble, toNat_highNibble]
  rfl

theorem subDec_r_toNat (a m : Byte) (c : Bool) :
    ((subDec a m c).r.toNat : Int) = adjustedDifference a.toNat m.toNat (!c).toNat % 256 := by
  rw [subDec_eq, BitVec.toNat_ofInt]
  omega

/-- Of valid BCD operands the difference and the adjusted difference have the same digits. -/
theorem exists_digits_of_difference {a m b : Nat} (ha : validBcd a) (hm : validBcd m) (hb : b ≤ 1) :
    ∃ borrow tens units : Nat, borrow ≤ 1 ∧ tens ≤ 9 ∧ units ≤ 9 ∧
      (bcdValue a : Int) - bcdValue m - b = tens * 10 + units - borrow * 100 ∧
      adjustedDifference a m b = tens * 16 + units - borrow * 256 := by
  obtain ⟨ha0, ha1⟩ := ha
  obtain ⟨hm0, hm1⟩ := hm
  let units : Int := (a % 16 : Int) - (m % 16 : Int) - b
  let tens : Int := (a / 16 : Int) - (m / 16 : Int) + units / 10
  have value : (bcdValue a : Int) - bcdValue m - b = tens * 10 + units % 10 := by
    simp only [bcdValue]
    omega
  have half : halfAdjustedDifference a m b = tens * 16 + units % 10 := by
    simp only [halfAdjustedDifference]
    split <;> omega
  refine ⟨(-(tens / 10)).toNat, (tens % 10).toNat, (units % 10).toNat, by omega, by omega, by omega, by omega, ?_⟩
  simp only [adjustedDifference, half]
  split <;> omega

/-- On valid BCD operands: the decimal difference modulo 100, and C when it is not negative (R207). -/
theorem subDec_of_validBcd {a m : Byte} (c : Bool) (ha : validBcd a.toNat) (hm : validBcd m.toNat) :
    let u := subDec a m c
    let d : Int := bcdValue a.toNat - bcdValue m.toNat - (!c).toNat
    (bcdValue u.r.toNat : Int) = d % 100 ∧ u.r.toNat % 16 ≤ 9 ∧ u.c = decide (0 ≤ d) := by
  obtain ⟨borrow, tens, units, hborrow, htens, hunits, value, adjusted⟩ :=
    exists_digits_of_difference ha hm (!c).toNat_le
  have result : (subDec a m c).r.toNat = tens * 16 + units := by
    have r := subDec_r_toNat a m c
    rw [adjusted] at r
    omega
  have carry : m.toNat + (!c).toNat ≤ a.toNat ↔ (0 : Int) ≤ bcdValue a.toNat - bcdValue m.toNat - (!c).toNat := by
    obtain ⟨ha0, ha1⟩ := ha
    obtain ⟨hm0, hm1⟩ := hm
    have := (!c).toNat_le
    simp only [bcdValue]
    omega
  refine ⟨?_, ?_, ?_⟩
  · rw [result, value, bcdValue_digits hunits]
    omega
  · rw [result]
    omega
  · rw [subDec_eq, ← decide_eq_decide.mpr carry]
    exact subBin_c a m c

end Sys2Proof.Machine

namespace Sys2Proof.Proofs

open Sys2Proof.Machine

/-- Settles O20: field by field on all operands, and by the common digits of the two sums on valid BCD. -/
theorem decimalAddition : Obligations.DecimalAddition := by
  unfold Obligations.DecimalAddition
  intro a m c
  exact ⟨addDec_r_toNat a m c, addDec_c a m c, addDec_z a m c, addDec_n a m c, addDec_v a m c,
    fun ha0 ha1 hm0 hm1 => addDec_of_validBcd c ⟨ha0, ha1⟩ ⟨hm0, hm1⟩⟩

/-- Settles O21: only the result byte differs from the binary subtraction; on valid BCD it has the digits of the difference. -/
theorem decimalSubtraction : Obligations.DecimalSubtraction := by
  unfold Obligations.DecimalSubtraction
  intro a m c
  exact ⟨rfl, rfl, rfl, rfl, subDec_r_toNat a m c, fun ha0 ha1 hm0 hm1 => subDec_of_validBcd c ⟨ha0, ha1⟩ ⟨hm0, hm1⟩⟩

end Sys2Proof.Proofs
end

section
/-! PROOF. Logic, bit test, shift and rotate (`43_logic_shift.md` R230 to R238): each form runs as the shape that its arm of
`exec` calls. In integers a shift is a doubling or a halving, and a rotate adds the old carry at the bit that the shift left
free. -/

namespace Sys2Proof.Machine

/-- An arm of `exec` that puts the accumulator through `f`. -/
theorem computes_of_exec_acc {i : Instr} {s : State} {cost : Nat} {f : Byte → Cpu → Byte × Cpu}
    (h : exec i s = accInstr cost f s) :
    Computes s s { (f s.cpu.a s.cpu).2 with a := (f s.cpu.a s.cpu).1 } cost (exec i s) := by
  rw [h]
  exact accInstr_spec cost f s

/-- BIT's effect, in the statement's terms (R234). -/
theorem bitTest_eq : bitTest = fun m c =>
    { c with n := m.getLsbD 7, v := m.getLsbD 6, z := decide (c.a &&& m = 0) } := rfl

/-! ## The bit shifted out -/

theorem getLsbD_seven_eq_decide_le (v : Byte) : v.getLsbD 7 = decide (128 ≤ v.toNat) := by
  rw [← BitVec.msb_eq_getLsbD_last]
  exact BitVec.msb_eq_decide v

theorem getLsbD_zero_eq_decide_mod (v : Byte) : v.getLsbD 0 = decide (v.toNat % 2 = 1) := Nat.testBit_zero v.toNat

/-! ## The result byte, in integers -/

/-- A multiple of `2 ^ k` and a number below `2 ^ k` have no bit in common: their OR is their sum. -/
theorem toNat_or_eq_add {x y : Byte} {k : Nat} (hx : 2 ^ k ∣ x.toNat) (hy : y.toNat < 2 ^ k) :
    (x ||| y).toNat = x.toNat + y.toNat := by
  obtain ⟨a, ha⟩ := hx
  rw [BitVec.toNat_or, ha, ← Nat.two_pow_add_eq_or_of_lt hy]

theorem toNat_shiftLeft_one (v : Byte) : (v <<< 1).toNat = v.toNat * 2 % 256 := by
  rw [BitVec.toNat_shiftLeft, Nat.shiftLeft_eq, Nat.pow_one]

theorem toNat_ushiftRight_one (v : Byte) : (v >>> 1).toNat = v.toNat / 2 := by
  rw [BitVec.toNat_ushiftRight, Nat.shiftRight_one]

theorem toNat_carryBit (c : Bool) : ((BitVec.ofBool c).setWidth 8).toNat = c.toNat := by cases c <;> rfl

theorem toNat_carryBit_shiftLeft (c : Bool) : ((BitVec.ofBool c).setWidth 8 <<< 7).toNat = c.toNat * 128 := by
  cases c <;> rfl

theorem shiftLeft_one_eq_ofNat (v : Byte) : v <<< 1 = BitVec.ofNat 8 (v.toNat * 2) := by
  apply BitVec.eq_of_toNat_eq
  rw [toNat_shiftLeft_one, BitVec.toNat_ofNat]

theorem ushiftRight_one_eq_ofNat (v : Byte) : v >>> 1 = BitVec.ofNat 8 (v.toNat / 2) := by
  rw [← toNat_ushiftRight_one, BitVec.ofNat_toNat, BitVec.setWidth_eq]

/-- A left shift leaves bit 0 free for the carry. -/
theorem shiftLeft_one_or_carry (v : Byte) (c : Bool) :
    v <<< 1 ||| (BitVec.ofBool c).setWidth 8 = BitVec.ofNat 8 (v.toNat * 2 + c.toNat) := by
  have even : 2 ^ 1 ∣ (v <<< 1).toNat := by
    rw [toNat_shiftLeft_one]
    omega
  have low : ((BitVec.ofBool c).setWidth 8 : Byte).toNat < 2 ^ 1 := by
    rw [toNat_carryBit]
    exact c.toNat_lt
  have hc := c.toNat_le
  apply BitVec.eq_of_toNat_eq
  rw [toNat_or_eq_add even low, toNat_shiftLeft_one, toNat_carryBit, BitVec.toNat_ofNat]
  omega

/-- A right shift leaves bit 7 free for the carry. -/
theorem ushiftRight_one_or_carry (v : Byte) (c : Bool) :
    v >>> 1 ||| (BitVec.ofBool c).setWidth 8 <<< 7 = BitVec.ofNat 8 (v.toNat / 2 + c.toNat * 128) := by
  have high : 2 ^ 7 ∣ ((BitVec.ofBool c).setWidth 8 <<< 7 : Byte).toNat := by
    rw [toNat_carryBit_shiftLeft]
    omega
  have hv := v.isLt
  have low : (v >>> 1).toNat < 2 ^ 7 := by
    rw [toNat_ushiftRight_one]
    omega
  have hc := c.toNat_le
  apply BitVec.eq_of_toNat_eq
  rw [BitVec.or_comm, toNat_or_eq_add high low, toNat_carryBit_shiftLeft, toNat_ushiftRight_one, BitVec.toNat_ofNat]
  omega

/-! ## The four effects (R235 to R238) -/

/-- The outcome of a shift: the byte of `n`, with the bit shifted out in C. -/
def shifted (n : Nat) (out : Bool) (c : Cpu) : Byte × Cpu :=
  let r := BitVec.ofNat 8 n
  (r, { c with c := out, n := r.getLsbD 7, z := decide (r = 0) })

theorem shiftLeft_eq : shiftLeft = fun v c => shifted (v.toNat * 2) (decide (128 ≤ v.toNat)) c := by
  funext v c
  rw [shiftLeft, shiftLeft_one_eq_ofNat, getLsbD_seven_eq_decide_le]
  rfl

theorem shiftRight_eq : shiftRight = fun v c => shifted (v.toNat / 2) (decide (v.toNat % 2 = 1)) c := by
  funext v c
  rw [shiftRight, ushiftRight_one_eq_ofNat, getLsbD_zero_eq_decide_mod]
  rfl

theorem rotateLeft_eq : rotateLeft = fun v c =>
    shifted (v.toNat * 2 + c.c.toNat) (decide (128 ≤ v.toNat)) c := by
  funext v c
  rw [rotateLeft, shiftLeft_one_or_carry, getLsbD_seven_eq_decide_le]
  rfl

theorem rotateRight_eq : rotateRight = fun v c =>
    shifted (v.toNat / 2 + c.c.toNat * 128) (decide (v.toNat % 2 = 1)) c := by
  funext v c
  rw [rotateRight, ushiftRight_one_or_carry, getLsbD_zero_eq_decide_mod]
  rfl

end Sys2Proof.Machine

namespace Sys2Proof.Proofs

open Sys2Proof.Machine

/-- Settles O23: the arms call the read shapes with `andA`, `oraA`, `eorA` or `bitTest`; the first three load A. -/
theorem logicCompletes : Obligations.LogicCompletes := by
  unfold Obligations.LogicCompletes
  intro put
  rw [show put = loadA from loadA_eq.symm, ← bitTest_eq]
  refine ⟨?and, ?ora, ?eor, fun s z w => ⟨readsAs_of_exec rfl, readsAs_of_exec rfl⟩⟩
  case and => exact accumulatorForms_of_exec (f := andA) fun _ _ _ _ => ⟨rfl, rfl, rfl, rfl, rfl, rfl, rfl, rfl⟩
  case ora => exact accumulatorForms_of_exec (f := oraA) fun _ _ _ _ => ⟨rfl, rfl, rfl, rfl, rfl, rfl, rfl, rfl⟩
  case eor => exact accumulatorForms_of_exec (f := eorA) fun _ _ _ _ => ⟨rfl, rfl, rfl, rfl, rfl, rfl, rfl, rfl⟩

/-- Settles O25: the arms call the read-modify-write shape or the accumulator shape with the four effects, which are the
statement's in integers. -/
theorem shiftsComplete : Obligations.ShiftsComplete := by
  unfold Obligations.ShiftsComplete
  intro put asl lsr rol ror
  rw [show asl = shiftLeft from shiftLeft_eq.symm, show lsr = shiftRight from shiftRight_eq.symm,
    show rol = rotateLeft from rotateLeft_eq.symm, show ror = rotateRight from rotateRight_eq.symm]
  refine ⟨?asl, ?lsr, ?rol, ?ror, fun s => ?onA⟩
  case onA => exact ⟨computes_of_exec_acc rfl, computes_of_exec_acc rfl, computes_of_exec_acc rfl, computes_of_exec_acc rfl⟩
  all_goals exact modifyForms_of_exec fun _ _ _ => ⟨rfl, rfl, rfl, rfl⟩

end Sys2Proof.Proofs
end

section
/-! PROOF. Branches, jumps and subroutines (`44_branch_jump.md` R250 to R263): the branch target and its page in integers, the
pointer of JMP indirect inside its page, and JSR and RTS as two pushes and two pulls. -/

namespace Sys2Proof.Machine

/-! ## The branches (R152, R570) -/

/-- A sign-extended displacement, added modulo 65536. -/
theorem add_sext16_eq_ofInt (pc : Word) (d : Byte) : pc + sext16 d = BitVec.ofInt 16 (pc.toNat + d.toInt) := by
  rw [BitVec.ofInt_add, BitVec.ofInt_natCast, BitVec.ofNat_toNat, BitVec.setWidth_eq]
  rfl

theorem takenCost_eq (target pc : Word) :
    3 + (if hiByte target = hiByte pc then 0 else 1) = if target.toNat / 256 = pc.toNat / 256 then 3 else 4 := by
  simp only [hiByte_eq_iff, hiByte_toNat]
  split <;> rfl

/-- An arm of `exec` that calls the branch shape, with the target and the cycles in integers. -/
theorem computes_of_exec_branch {i : Instr} {s : State} {taken : Bool} {d : Byte} (h : exec i s = branchInstr taken d s) :
    let target := BitVec.ofInt 16 (s.cpu.pc.toNat + d.toInt)
    Computes s s (if taken then { s.cpu with pc := target } else s.cpu)
      (if taken then (if target.toNat / 256 = s.cpu.pc.toNat / 256 then 3 else 4) else 2) (exec i s) := by
  have shape := branchInstr_spec taken d s
  rw [takenCost_eq, add_sext16_eq_ofInt] at shape
  rw [h]
  exact shape

/-! ## The jumps (R260, R261) -/

/-- The high byte of an indirect target comes from the pointer's own page. -/
theorem indirectHigh_eq (p : Word) : indirectHigh p = BitVec.ofNat 16 (p.toNat / 256 * 256 + (p.toNat + 1) % 256) := by
  have wraps : indirectHigh p = wordOfBytes (loByte p + 1) (hiByte p) := rfl
  have one : (1 : Byte).toNat = 1 := rfl
  have hp := p.isLt
  apply BitVec.eq_of_toNat_eq
  rw [wraps, wordOfBytes_toNat, hiByte_toNat, BitVec.toNat_add, loByte_toNat, one, BitVec.toNat_ofNat]
  omega

/-! ## The subroutine instructions (R262, R263) -/

theorem pull16_put (s : State) (c : Cpu) (m : Memory) :
    pull16 (put s c m) =
      (wordOfBytes (Memory.read Config.ramFill m (stackAddr (c.sp + 1)).toNat)
        (Memory.read Config.ramFill m (stackAddr (c.sp + 2)).toNat),
      put (scanTick (scanTick s)) { c with sp := c.sp + 2 } m) := by
  simp only [pull16, pull8_put, sp_add_one]

/-- The scan task leaves RAM alone, so only the register file is put in. -/
theorem put_ram_of_onlyLatches {s t : State} (h : OnlyLatches s t) (c : Cpu) : put t c s.ram = t.setCpu c := by
  rw [← h.ram]
  rfl

theorem twoTicks_onlyLatches (s : State) : OnlyLatches s (scanTick (scanTick s)) :=
  (scanTick_onlyLatches s).trans (scanTick_onlyLatches _)

theorem execJsr_pushes {s : State} (wf : memoryWf s = true) (w : Word) :
    Pushes s [(stackAddr s.cpu.sp, hiByte (s.cpu.pc - 1)), (stackAddr (s.cpu.sp - 1), loByte (s.cpu.pc - 1))]
      { s.cpu with pc := w, sp := s.cpu.sp - 2 } 6 (exec (.jsr w) s) := by
  have arm : exec (.jsr w) s = .next (charge 6 (setPc w (push16 (s.cpu.pc - 1) s))) := rfl
  have push := push16_put (s.cpu.pc - 1) s s.cpu s.ram
  obtain ⟨apart, -, -⟩ := stackAddr_ne s.cpu.sp
  rw [put_self] at push
  rw [arm, push, setPc_put]
  exact pushes_put _ 6 wf (List.pairwise_pair.mpr apart) (twoTicks_onlyLatches s)

theorem execRts_computes (s : State) :
    Computes s (scanTick (scanTick s)) { s.cpu with
      sp := s.cpu.sp + 2
      pc := wordOfBytes (ramByte s (0x0100 + (s.cpu.sp + 1).toNat)) (ramByte s (0x0100 + (s.cpu.sp + 2).toNat)) + 1 }
      6 (exec .rts s) := by
  have arm : exec .rts s = .next (charge 6 (setPc ((pull16 s).1 + 1) (pull16 s).2)) := rfl
  have pull := pull16_put s s.cpu s.ram
  have latches := twoTicks_onlyLatches s
  rw [put_self, put_ram_of_onlyLatches latches, stackAddr_toNat, stackAddr_toNat] at pull
  refine ⟨?_, latches.onlyReads⟩
  rw [arm, pull, spent, ← latches.orch]
  rfl

/-- The two bytes RTS pulls are those JSR pushed, wherever the stack pointer wraps. -/
theorem execRts_after_execJsr_cpu {s t u : State} (wf : memoryWf s = true) {w : Word} (jsr : exec (.jsr w) s = .next t)
    (rts : exec .rts t = .next u) : u.cpu = s.cpu := by
  obtain ⟨t', runs, tcpu, -, bytes, -, -⟩ := (execJsr_pushes wf w).runs
  obtain rfl : t = t' := Host.Outcome.next.inj (jsr.symm.trans runs)
  have ucpu := congrArg State.cpu (Host.Outcome.next.inj (rts.symm.trans (execRts_computes t).runs))
  have sp1 : s.cpu.sp - 2 + 1 = s.cpu.sp - 1 := by bv_omega
  have sp2 : s.cpu.sp - 2 + 2 = s.cpu.sp := sub_add_cancel _ _
  have high : ramByte t (0x0100 + s.cpu.sp.toNat) = hiByte (s.cpu.pc - 1) := by
    rw [← stackAddr_toNat]
    exact bytes _ _ (by simp)
  have low : ramByte t (0x0100 + (s.cpu.sp - 1).toNat) = loByte (s.cpu.pc - 1) := by
    rw [← stackAddr_toNat]
    exact bytes _ _ (by simp)
  rw [tcpu] at ucpu
  simp only [sp1, sp2, low, high, wordOfBytes_bytes, sub_add_cancel] at ucpu
  exact ucpu

end Sys2Proof.Machine

namespace Sys2Proof.Proofs

open Sys2Proof.Machine

/-- Settles O28: JSR is the two pushes, RTS the two pulls, and the pulled word plus one is the PC that JSR left. -/
theorem subroutinesComplete : Obligations.SubroutinesComplete := by
  unfold Obligations.SubroutinesComplete
  intro s w wf
  exact ⟨execJsr_pushes wf w, scanTick (scanTick s), twoTicks_onlyLatches s,
    execRts_computes s, fun _ _ jsr rts => execRts_after_execJsr_cpu wf jsr rts⟩

/-- Settles O26: each arm calls the branch shape with the test of its flag. -/
theorem branchesComplete : Obligations.BranchesComplete := by
  unfold Obligations.BranchesComplete
  intro s d target branch
  refine ⟨?bcc, ?bcs, ?beq, ?bne, ?bmi, ?bpl, ?bvc, ?bvs⟩
  all_goals exact computes_of_exec_branch rfl

/-- Settles O27: JMP sets PC alone; the indirect form by two reads, the second inside the pointer's page. -/
theorem jumpsComplete : Obligations.JumpsComplete := by
  unfold Obligations.JumpsComplete
  intro s w
  refine ⟨computes_of_exec_setCpu rfl rfl, ?_⟩
  intro lo hi
  have reads : OnlyReads s hi.2 := (memRead_onlyReads w s).trans (memRead_onlyReads _ lo.2)
  have arm : exec (.jmpInd w) s = .next (charge 5 (setPc (wordOfBytes lo.1 hi.1) hi.2)) := by
    rw [show hi = memRead (indirectHigh w) lo.2 by rw [indirectHigh_eq]]
    rfl
  refine ⟨?_, reads⟩
  rw [arm, spent, ← reads.cpu, ← reads.orch]
  rfl

end Sys2Proof.Proofs
end

section
/-! PROOF. BRK and RTI (`45_flag_system.md` R281, R282): BRK is the exception entry with PC past its padding byte, RTI is
three pulls and the release of the NMI latch by its parameter. -/

namespace Sys2Proof.Machine

/-! ## The exception entry (R340) -/

/-- Taking an exception with the register file `c` completes as its three pushes. -/
theorem enterTrap_pushes {s : State} (wf : memoryWf s = true) (c : Cpu) (k : Trap) (cost : Nat) :
    Pushes s (trapPushes k.breakBit c)
      { c with
        sp := c.sp - 3, b := k.breakBit, i := true
        pc := wordOfBytes (storeByte s k.vector) (storeByte s (k.vector + 1)) }
      cost (.next (charge cost (enterTrap k (put s c s.ram)))) := by
  rw [enterTrap_put c k wf]
  exact pushes_put _ cost wf (trapPushes_pairwise _ c) (fiveTicks_onlyLatches s)

/-! ## The return from an exception (R282) -/

theorem threeTicks_onlyLatches (s : State) : OnlyLatches s (scanTick (scanTick (scanTick s))) :=
  (scanTick_onlyLatches s).trans (twoTicks_onlyLatches _)

/-- The register file after a return from an exception: the flags from the first byte pulled, PC from the other two. -/
def returnCpu (s : State) : Cpu :=
  { unpackP (ramByte s (0x0100 + (s.cpu.sp + 1).toNat)) s.cpu with
    sp := s.cpu.sp + 3
    pc := wordOfBytes (ramByte s (0x0100 + (s.cpu.sp + 2).toNat)) (ramByte s (0x0100 + (s.cpu.sp + 3).toNat)) }

theorem returnTrap_pulls (s : State) :
    let p := pull8 s
    let r := pull16 (p.2.setCpu (unpackP p.1 p.2.cpu))
    setPc r.1 r.2 = (scanTick (scanTick (scanTick s))).setCpu (returnCpu s) := by
  have status : (pull8 s).2.setCpu (unpackP (pull8 s).1 (pull8 s).2.cpu) = put (scanTick s)
      (unpackP (ramByte s (0x0100 + (s.cpu.sp + 1).toNat)) { s.cpu with sp := s.cpu.sp + 1 }) s.ram := by
    rw [pull8_spec, stackAddr_toNat, put_ram_of_onlyLatches (scanTick_onlyLatches s)]
    rfl
  have sp2 : s.cpu.sp + 1 + 1 = s.cpu.sp + 2 := sp_add_one _
  have sp3 : s.cpu.sp + 1 + 2 = s.cpu.sp + 3 := add_assoc _ _ _
  dsimp only
  rw [status, pull16_put, setPc_put, put_ram_of_onlyLatches (threeTicks_onlyLatches s), stackAddr_toNat, stackAddr_toNat,
    returnCpu, ← sp2, ← sp3]
  rfl

/-- What a return from an exception does: the three pulls, then the latch by its parameter (R353). -/
theorem returnTrap_eq (s : State) : returnTrap s =
    ((scanTick (scanTick (scanTick s))).setCpu (returnCpu s)).setOrch { s.orch with
      nmiInService := if s.params.nmiLatchClearOnRti then false else s.orch.nmiInService } := by
  have latches := threeTicks_onlyLatches s
  simp only [returnTrap, returnTrap_pulls, State.setCpu_params, State.setCpu_orch, latches.params, latches.orch]
  split
  · rfl
  · rw [← latches.orch]
    rfl

end Sys2Proof.Machine

namespace Sys2Proof.Proofs

open Sys2Proof.Machine

/-- Settles O29: the exception entry of kind BRK, with the register file whose PC skips the padding byte. -/
theorem breakCompletes : Obligations.BreakCompletes := by
  unfold Obligations.BreakCompletes
  intro s wf
  exact enterTrap_pushes wf { s.cpu with pc := s.cpu.pc + 1 } .brk 7

/-- Settles O30: three pulls, the last two without an adjustment. -/
theorem returnFromInterruptCompletes : Obligations.ReturnFromInterruptCompletes := by
  unfold Obligations.ReturnFromInterruptCompletes
  intro s
  refine ⟨_, threeTicks_onlyLatches s, ?_⟩
  have arm : exec .rti s = .next (charge 6 (returnTrap s)) := rfl
  rw [arm, returnTrap_eq]
  rfl

end Sys2Proof.Proofs
end

section
/-! PROOF. The NMI latch (`60_exceptions.md` R351, R353): of the orchestrator's state an instruction other than RTI changes the
cycle count alone. -/

namespace Sys2Proof.Machine

/-! ## The orchestrator under writes and pushes -/

@[simp] theorem memWrite_orch (a : Word) (v : Byte) (s : State) : (memWrite a v s).orch = s.orch := by
  obtain ⟨-, orch, -⟩ := memWrite_frame a v s
  exact orch

@[simp] theorem push8_orch (v : Byte) (s : State) : (push8 v s).orch = s.orch := memWrite_orch _ v s

@[simp] theorem push16_orch (w : Word) (s : State) : (push16 w s).orch = s.orch := by simp only [push16, push8_orch]

@[simp] theorem enterTrap_orch (k : Trap) (s : State) : (enterTrap k s).orch = s.orch := by
  simp only [enterTrap, setPc_orch, (read16_onlyReads _ _).orch, State.setCpu_orch, push8_orch, push16_orch]

/-! ## Outcomes that only count cycles -/

/-- A next state that `r` answers has of the orchestrator's state in `s` the cycle count changed at most. -/
def OnlyCharges (s : State) (r : Result) : Prop := ∀ t, r = .next t → ∃ n, t.orch = spent n s

theorem onlyCharges_charge {s t : State} (n : Nat) (h : t.orch = s.orch) : OnlyCharges s (.next (charge n t)) := by
  rintro _ ⟨⟩
  exact ⟨n, by rw [charge_orch, h, spent]⟩

theorem onlyCharges_setAntic (s : State) (a : Antic) : OnlyCharges s (.next (s.setAntic a)) := by
  rintro _ ⟨⟩
  exact ⟨0, rfl⟩

theorem onlyCharges_refused (s : State) (r : Refusal) : OnlyCharges s (.refused r) :=
  fun _ h => nomatch h

theorem Computes.onlyCharges {s s1 : State} {c : Cpu} {cost : Nat} {r : Result} (h : Computes s s1 c cost r) :
    OnlyCharges s r := by
  intro t ht
  obtain rfl := Host.Outcome.next.inj (h.runs.symm.trans ht)
  exact ⟨cost, rfl⟩

theorem storeInstr_onlyCharges (cost : Nat) (v : Byte) (m : MemMode) (s : State) :
    OnlyCharges s (storeInstr cost v m s) :=
  onlyCharges_charge cost ((memWrite_orch _ _ _).trans (effAddr_onlyReads m s).orch)

theorem rmwInstr_onlyCharges (cost : Nat) (f : Byte → Cpu → Byte × Cpu) (m : MemMode) (s : State) :
    OnlyCharges s (rmwInstr cost f m s) :=
  onlyCharges_charge cost ((memWrite_orch _ _ _).trans (operandOf_onlyReads m s).orch)

theorem undocStep_onlyCharges (op : Byte) (s : State) : OnlyCharges s (undocStep op s) := by
  obtain ⟨orch, -⟩ := undocWrites_frame (undocEffect op s).writes s
  exact onlyCharges_charge _ orch

/-- A mode number without a table entry is refused, so there is no next state to speak of (R312). -/
theorem execDlMode_onlyCharges (dli vs hs : Bool) (m : BitVec 4) (s : State) : OnlyCharges s (execDlMode dli vs hs m s) := by
  unfold execDlMode
  split
  · exact onlyCharges_setAntic s _
  · exact onlyCharges_refused s _

theorem execDlModeLms_onlyCharges (dli vs hs : Bool) (m : BitVec 4) (addr : Word) (s : State) :
    OnlyCharges s (execDlModeLms dli vs hs m addr s) := by
  unfold execDlModeLms
  split
  · exact onlyCharges_setAntic s _
  · exact onlyCharges_refused s _

/-- Every instruction but RTI leaves the orchestrator's state but for the cycle count. -/
theorem exec_onlyCharges {i : Instr} (h : i ≠ .rti) (s : State) : OnlyCharges s (exec i s) := by
  cases i with
  | rti => exact absurd rfl h
  | oraIndx | oraZp | oraAbs | oraIndy | oraZpx | oraAbsy | oraAbsx | andIndx | andZp | andAbs | andIndy | andZpx | andAbsy
  | andAbsx | eorIndx | eorZp | eorAbs | eorIndy | eorZpx | eorAbsy | eorAbsx | bitZp | bitAbs | adcIndx | adcZp | adcAbs
  | adcIndy | adcZpx | adcAbsy | adcAbsx | sbcIndx | sbcZp | sbcAbs | sbcIndy | sbcZpx | sbcAbsy | sbcAbsx | cmpIndx
  | cmpZp | cmpAbs | cmpIndy | cmpZpx | cmpAbsy | cmpAbsx | cpxZp | cpxAbs | cpyZp | cpyAbs | ldaIndx | ldaZp | ldaAbs
  | ldaIndy | ldaZpx | ldaAbsy | ldaAbsx | ldxZp | ldxAbs | ldxZpy | ldxAbsy | ldyZp | ldyAbs | ldyZpx | ldyAbsx =>
    exact (readInstr_spec _ _ _ _ s).onlyCharges
  | staIndx | staZp | staAbs | staIndy | staZpx | staAbsy | staAbsx | stxZp | stxAbs | stxZpy | styZp | styAbs | styZpx =>
    exact storeInstr_onlyCharges _ _ _ s
  | aslZp | aslAbs | aslZpx | aslAbsx | rolZp | rolAbs | rolZpx | rolAbsx | lsrZp | lsrAbs | lsrZpx | lsrAbsx | rorZp
  | rorAbs | rorZpx | rorAbsx | decZp | decAbs | decZpx | decAbsx | incZp | incAbs | incZpx | incAbsx =>
    exact rmwInstr_onlyCharges _ _ _ s
  | clc | sec | cli | sei | clv | cld | sed | tax | tay | txa | tya | tsx | txs | inx | iny | dex | dey | nop | aslAcc
  | rolAcc | lsrAcc | rorAcc | oraImm | andImm | eorImm | adcImm | sbcImm | cmpImm | cpxImm | cpyImm | ldaImm | ldxImm
  | ldyImm | jmpAbs => exact onlyCharges_charge _ rfl
  | bpl | bmi | bvc | bvs | bcc | bcs | bne | beq => exact (branchInstr_spec _ _ s).onlyCharges
  | jmpInd w => exact (Proofs.jumpsComplete s w).2.onlyCharges
  | jsr w => exact onlyCharges_charge 6 (push16_orch _ s)
  | rts => exact (execRts_computes s).onlyCharges
  | pha | php => exact onlyCharges_charge 3 (push8_orch _ s)
  | pla => exact (computes_of_exec_pull8 (f := loadA) rfl).onlyCharges
  | plp => exact (computes_of_exec_pull8 (f := unpackP) rfl).onlyCharges
  | brk => exact onlyCharges_charge 7 (enterTrap_orch .brk _)
  | dlBlank | dlJmp | dlJvb => exact onlyCharges_setAntic s _
  | dlMode => exact execDlMode_onlyCharges _ _ _ _ s
  | dlModeLms => exact execDlModeLms_onlyCharges _ _ _ _ _ s
  | _ => exact undocStep_onlyCharges _ s

end Sys2Proof.Machine

namespace Sys2Proof.Proofs

open Sys2Proof.Machine

/-- Settles O39: what RTI does is O30; every other instruction leaves the latch with all but the cycle count. -/
theorem instructionsLeaveNmiLatch : Obligations.InstructionsLeaveNmiLatch := by
  unfold Obligations.InstructionsLeaveNmiLatch
  intro i s t hexec
  by_cases hi : i = .rti
  · subst hi
    obtain ⟨s1, -, runs⟩ := returnFromInterruptCompletes s
    obtain rfl := Host.Outcome.next.inj (runs.symm.trans hexec)
    cases hclear : s.params.nmiLatchClearOnRti with
    | true => exact .inr ⟨rfl, rfl, rfl⟩
    | false => exact .inl (rfl)
  · obtain ⟨n, orch⟩ := exec_onlyCharges hi s t hexec
    exact .inl (by rw [orch, spent])

end Sys2Proof.Proofs
end

section
/-! PROOF. Nothing stops the machine (`46_undocumented.md` R290; `47_display_list.md` R315; R331, R519).
The only refusal a meaning can give is that of a mode line numbered 0 or 1, and neither opcode table decodes to one
(`fetchInstr_wellFormed`, `dlFetchInstr_spec`); every well-formed instruction runs on in every state (`exec_runs`), the
undocumented ones by `undocStep` (`undocStep_runs`). `step_runs` puts this together for the two kinds of step. -/

namespace Sys2Proof.Proofs

open Sys2Proof.Machine

/-- Settles O42: a step is a sequence of updates of the state, so it has a next state. -/
theorem everyStateSteps : Obligations.EveryStateSteps := by
  unfold Obligations.EveryStateSteps
  intro s
  obtain ⟨t, runs, -⟩ := step_runs s
  exact ⟨t, runs⟩

end Sys2Proof.Proofs
end

section
/-! PROOF. The display-list instructions (`47_display_list.md` R300 to R313): what each leaves of the video coprocessor's state, and
the fetch of one at the display-list pointer. -/

namespace Sys2Proof.Machine

/-! ## The two interrupt requests (R307, R310) -/

/-- The DLI modifier raises the display-list interrupt where `NMIEN` bit 7 enables it. -/
theorem dliModifier_eq {a : Antic} {dli : Bool} {nmien : Byte} (hdli : a.curDli = dli) (hnmien : a.nmien = nmien) :
    dliModifier a = if dli && nmien.getLsbD 7 then
      { a with pendingDli := true, nmist := a.nmist ||| 0x80 } else a := by
  subst hdli hnmien
  unfold dliModifier raiseDli
  cases a.curDli <;> rfl

/-- A raise of the vertical-blank interrupt, field by field. -/
theorem raiseVbi_eq (a : Antic) :
    raiseVbi a = { a with
      pendingVbi := a.pendingVbi || a.nmien.getLsbD 6
      nmist := if a.nmien.getLsbD 6 then a.nmist ||| 0x40 else a.nmist } := by
  unfold raiseVbi
  cases a.nmien.getLsbD 6 with
  | true => rw [Bool.or_true]; rfl
  | false => rw [Bool.or_false]; rfl

/-- What JVB sets (R304, R307). -/
theorem jumpWait_latchModifiers (addr : Word) (dli vs hs : Bool) (a : Antic) :
    jumpWait addr (latchModifiers dli vs hs a) = { a with
      curDli := dli, curVscroll := vs, curHscroll := hs, rowInMode := 0
      dlPc := addr, curMode := 0, rowsLeft := 0, dlActive := false
      pendingVbi := a.pendingVbi || a.nmien.getLsbD 6
      nmist := if a.nmien.getLsbD 6 then a.nmist ||| 0x40 else a.nmist } := raiseVbi_eq _

/-! ## The playfield width (R313, R374) -/

/-- The width field is the two low bits of `DMACTL`. -/
theorem Antic.width_eq (a : Antic) : a.width = a.dmactl.toNat % 4 := by
  simp [Antic.width]

/-- The width is 0 when both its bits are. -/
theorem Antic.width_eq_zero_iff (a : Antic) :
    a.width = 0 ↔ a.dmactl.getLsbD 0 = false ∧ a.dmactl.getLsbD 1 = false := by
  have bits : ∀ v : Byte, v.toNat % 4 = 0 ↔ v.getLsbD 0 = false ∧ v.getLsbD 1 = false := by decide
  rw [a.width_eq, bits]

theorem unitsOf_eq (bytes w : Nat) :
    unitsOf bytes w = if w = 1 then bytes * 4 / 5 else if w = 2 then bytes else bytes * 6 / 5 := by
  unfold unitsOf
  split <;> simp_all

theorem xoffOf_eq (w : Nat) : xoffOf w = if w = 1 then 64 else if w = 2 then 32 else 0 := by
  unfold xoffOf
  split <;> simp_all

theorem putWidth_of_width_zero {a : Antic} (h : a.width = 0) (bytes : Nat) (hs : Bool) : putWidth bytes hs a = a := by
  simp only [putWidth, h, if_true]

theorem putWidth_of_width_ne_zero {a : Antic} (h : a.width ≠ 0) (bytes : Nat) (hs : Bool) :
    putWidth bytes hs a = { a with
      renderUnits := unitsOf bytes a.width, xOffset := xoffOf a.width
      stride := if hs then unitsOf bytes (min (a.width + 1) 3) else unitsOf bytes a.width } := by
  simp only [putWidth, if_neg h]

/-! ## The mode table (R312) -/

/-- The fixed table of the mode lines: number, height, character class, bytes. -/
def modeLines : List (Nat × Nat × Bool × Nat) :=
  [(2, 8, true, 40), (3, 10, true, 40), (4, 8, true, 40), (5, 16, true, 40), (6, 8, true, 20), (7, 16, true, 20),
    (8, 8, false, 10), (9, 4, false, 10), (10, 4, false, 20), (11, 2, false, 20), (12, 1, false, 20), (13, 2, false, 40),
    (14, 1, false, 40), (15, 1, false, 40)]

/-- It lists the entries of `MODE_TABLE`. -/
theorem modeLines_eq : modeLines = (List.range 16).filterMap fun n =>
    (modeTable.getD n none).map fun r => (n, r.height, r.isChar, r.bytes) := rfl

theorem modeRow_of_mem_modeLines {m : BitVec 4} {height bytes : Nat} {char : Bool}
    (h : (m.toNat, height, char, bytes) ∈ modeLines) : ∃ r, modeRow m = some ⟨height, char, bytes, r⟩ := by
  rw [modeLines_eq] at h
  obtain ⟨n, -, entry⟩ := List.mem_filterMap.mp h
  obtain ⟨⟨_, _, _, renderer⟩, hrow, fields⟩ := Option.map_eq_some_iff.mp entry
  cases fields
  exact ⟨renderer, hrow⟩

/-! ## The mode lines (R308, R309) -/

theorem exec_dlMode {m : BitVec 4} {r : ModeRow} (h : modeRow m = some r) (dli vs hs : Bool) (s : State) :
    exec (.dlMode dli vs hs m) s =
      .next (s.setAntic (dliModifier (modeLine m r (latchModifiers dli vs hs s.antic)))) := by
  show execDlMode dli vs hs m s = _
  simp only [execDlMode, h]

theorem exec_dlModeLms {m : BitVec 4} {r : ModeRow} (h : modeRow m = some r) (dli vs hs : Bool) (addr : Word) (s : State) :
    exec (.dlModeLms dli vs hs m addr) s =
      .next (s.setAntic (dliModifier (loadMemscan addr (modeLine m r (latchModifiers dli vs hs s.antic))))) := by
  show execDlModeLms dli vs hs m addr s = _
  simp only [execDlModeLms, h]

/-- What a mode line sets where the playfield has a width. -/
theorem modeLine_latchModifiers_of_width {a : Antic} (h : a.width ≠ 0) (dli vs hs : Bool) (m : BitVec 4) (r : ModeRow) :
    modeLine m r (latchModifiers dli vs hs a) = { a with
      curDli := dli, curVscroll := vs, curHscroll := hs, rowInMode := 0
      curMode := m, modeHeight := r.height, isChar := r.isChar, bytesPerLine := r.bytes, rowsLeft := r.height
      renderUnits := unitsOf r.bytes a.width, xOffset := xoffOf a.width
      stride := if hs then unitsOf r.bytes (min (a.width + 1) 3) else unitsOf r.bytes a.width } :=
  putWidth_of_width_ne_zero (a := { latchModifiers dli vs hs a with
    curMode := m, modeHeight := r.height, isChar := r.isChar, bytesPerLine := r.bytes, rowsLeft := r.height }) h r.bytes hs

/-- What it sets where the playfield has none: the decoded widths stay. -/
theorem modeLine_latchModifiers_of_noWidth {a : Antic} (h : a.width = 0) (dli vs hs : Bool) (m : BitVec 4) (r : ModeRow) :
    modeLine m r (latchModifiers dli vs hs a) = { a with
      curDli := dli, curVscroll := vs, curHscroll := hs, rowInMode := 0
      curMode := m, modeHeight := r.height, isChar := r.isChar, bytesPerLine := r.bytes, rowsLeft := r.height } :=
  putWidth_of_width_zero (a := { latchModifiers dli vs hs a with
    curMode := m, modeHeight := r.height, isChar := r.isChar, bytesPerLine := r.bytes, rowsLeft := r.height }) h r.bytes hs

/-! ## Fetching an instruction of the display list (R300, R302) -/

/-- The state with the fetch pointer `n` bytes on and their cycles recorded. -/
def dlAdvanced (n : Nat) (s : State) : State :=
  s.setAntic { s.antic with dlPc := s.antic.dlPc + BitVec.ofNat 16 n, dmaCycles := s.antic.dmaCycles + n }

theorem dlAdvanced_dlAdvanced (m n : Nat) (s : State) : dlAdvanced n (dlAdvanced m s) = dlAdvanced (m + n) s := by
  simp only [dlAdvanced, State.setAntic, BitVec.ofNat_add, BitVec.add_assoc, Nat.add_assoc]

/-- With nothing scheduled and the byte outside the register window, a fetch reads the byte of the map and records itself. -/
theorem dlFetch8_quiet {s : State} (hscan : s.scan = []) (houtside : inIoWindow s.antic.dlPc = false) :
    dlFetch8 s = (storeByte s s.antic.dlPc, dlAdvanced 1 s) := by
  simp only [dlFetch8, memRead_store houtside, scanTick_quiet hscan]
  rfl

/-- The fetch after `n` others. -/
theorem dlFetch8_dlAdvanced {s : State} (hscan : s.scan = []) (n : Nat)
    (houtside : inIoWindow (s.antic.dlPc + BitVec.ofNat 16 n) = false) :
    dlFetch8 (dlAdvanced n s) = (storeByte s (s.antic.dlPc + BitVec.ofNat 16 n), dlAdvanced (n + 1) s) := by
  rw [dlFetch8_quiet (s := dlAdvanced n s) hscan houtside, dlAdvanced_dlAdvanced]
  rfl

/-- With three bytes outside the register window and nothing scheduled, the fetch reads the bytes of the map that the opcode's
entry asks for. -/
theorem dlFetchInstr_quiet {s : State} (hscan : s.scan = [])
    (houtside : ∀ k, k < 3 → inIoWindow (s.antic.dlPc + BitVec.ofNat 16 k) = false) :
    let entry := decodeDlOpcode (storeByte s s.antic.dlPc)
    dlFetchInstr s =
      (entry.complete (wordOfBytes (storeByte s (s.antic.dlPc + 1)) (storeByte s (s.antic.dlPc + 2))),
        dlAdvanced (entry.operands + 1) s) := by
  have first : dlFetch8 s = (storeByte s s.antic.dlPc, dlAdvanced 1 s) :=
    dlFetch8_quiet hscan (by simpa using houtside 0 (by decide))
  have second := dlFetch8_dlAdvanced hscan 1 (houtside 1 (by decide))
  have third := dlFetch8_dlAdvanced hscan 2 (houtside 2 (by decide))
  simp only [dlFetchInstr, first]
  obtain ⟨i, h, -⟩ | ⟨f, h, -⟩ := decodeDlOpcode_spec (storeByte s s.antic.dlPc)
  · simp only [h, readOperand, OpEntry.complete, OpEntry.operands]
  · simp only [h, readOperand, dlFetch16, second, third, OpEntry.complete, OpEntry.operands]
    rfl

/-- The display list's decoder on three bytes: the entry's instruction, and its operand bytes dropped. -/
theorem decodeDl_three_bytes (ir b1 b2 : Byte) : ∃ rest,
    decodeDl [ir, b1, b2] = .ok ((decodeDlOpcode ir).complete (wordOfBytes b1 b2), rest) := by
  obtain ⟨i, h, -⟩ | ⟨f, h, -⟩ := decodeDlOpcode_spec ir
  · exact ⟨[b1, b2], by simp only [decodeDl, decodeWith, h, OpEntry.complete]⟩
  · exact ⟨[], by simp only [decodeDl, decodeWith, h, OpEntry.complete]⟩

theorem encode_complete_dl_length (ir : Byte) (w : Word) :
    (encode ((decodeDlOpcode ir).complete w)).length = (decodeDlOpcode ir).operands + 1 := by
  have := (decodeDlOpcode ir).operands_le_two
  simp only [encode_complete_dl, List.length_take, encode3, List.length_cons, List.length_nil]
  omega

end Sys2Proof.Machine

namespace Sys2Proof.Proofs

open Sys2Proof.Machine

/-- Settles O32: each arm of `exec`, with the two requests written out. -/
theorem blankAndJumpsComplete : Obligations.BlankAndJumpsComplete := by
  unfold Obligations.BlankAndJumpsComplete
  intro s dli vs hs count addr a vbi irq
  have next {i : Instr} (b : Antic) (hdli : b.curDli = dli) (hnmien : b.nmien = a.nmien)
      (arm : exec i s = .next (s.setAntic (dliModifier b))) : exec i s = .next { s with antic := irq b } := by
    rw [arm, show dliModifier b = irq b from dliModifier_eq hdli hnmien]
    rfl
  refine ⟨?blank, ?jmp, ?jvb⟩
  case blank => exact next (blankLine count (latchModifiers dli (count.getLsbD 1) (count.getLsbD 0) a)) rfl rfl rfl
  case jmp => exact next (jumpLine addr (latchModifiers dli vs hs a)) rfl rfl rfl
  case jvb =>
    have wait := jumpWait_latchModifiers addr dli vs hs a
    exact wait ▸ next (jumpWait addr (latchModifiers dli vs hs a)) (by rw [wait]) (by rw [wait]) rfl

/-- Settles O33: the statement's table is `MODE_TABLE`, and with a width other than 0 `Width` is evaluated. -/
theorem modeLinesComplete : Obligations.ModeLinesComplete := by
  unfold Obligations.ModeLinesComplete
  intro s dli vs hs m addr height bytes char hmem hwidth w units irq line
  obtain ⟨renderer, hrow⟩ := modeRow_of_mem_modeLines hmem
  have width : s.antic.width ≠ 0 := fun h => by
    obtain ⟨h0, h1⟩ := s.antic.width_eq_zero_iff.mp h
    rw [h0, h1] at hwidth
    simp at hwidth
  have decoded : modeLine m ⟨height, char, bytes, renderer⟩ (latchModifiers dli vs hs s.antic) = line := by
    rw [modeLine_latchModifiers_of_width width, Antic.width_eq]
    simp only [unitsOf_eq, xoffOf_eq]
    rfl
  have modifier (b : Antic) (hdli : b.curDli = dli) (hnmien : b.nmien = s.antic.nmien) : dliModifier b = irq b :=
    dliModifier_eq hdli hnmien
  constructor
  · rw [exec_dlMode hrow, decoded, modifier line rfl rfl]
    rfl
  · rw [exec_dlModeLms hrow, decoded, modifier (loadMemscan addr line) rfl rfl]
    rfl

/-- Settles O34: with width 0 `Width` writes nothing. -/
theorem modeLinesWithoutWidth : Obligations.ModeLinesWithoutWidth := by
  unfold Obligations.ModeLinesWithoutWidth
  intro s dli vs hs m addr hmode h0 h1 i hi
  obtain ⟨r, hrow, -⟩ := modeRow_spec m (of_decide_eq_true hmode)
  have decoded := modeLine_latchModifiers_of_noWidth (s.antic.width_eq_zero_iff.mpr ⟨h0, h1⟩) dli vs hs m r
  simp only [List.mem_cons, List.not_mem_nil, or_false] at hi
  obtain rfl | rfl := hi
  · refine ⟨_, exec_dlMode hrow dli vs hs s, ?_⟩
    rw [decoded, dliModifier_frame]
    exact ⟨rfl, rfl, rfl, rfl, rfl⟩
  · refine ⟨_, exec_dlModeLms hrow dli vs hs addr s, ?_⟩
    rw [decoded, dliModifier_frame]
    exact ⟨rfl, rfl, rfl, rfl, rfl⟩

/-- Settles O35: decoder, encoder and fetch take the operand bytes that the opcode's entry asks for. -/
theorem displayListFetch : Obligations.DisplayListFetch := by
  unfold Obligations.DisplayListFetch
  intro s hscan houtside
  obtain ⟨rest, hdecode⟩ := decodeDl_three_bytes (storeByte s s.antic.dlPc) (storeByte s (s.antic.dlPc + 1))
    (storeByte s (s.antic.dlPc + 2))
  obtain ⟨d, -, runs, -⟩ := processDisplayList_spec s
  refine ⟨_, rest, hdecode, ?_, d, runs⟩
  rw [processDisplayList, dlFetchInstr_quiet hscan houtside, encode_complete_dl_length]
  rfl

end Sys2Proof.Proofs
end

section
/-! PROOF. Drawing a scanline (`61_video_coprocessor.md` R395 to R397): the background and the collision pass come first, then at
most one decode of the display list, then one scanline of the mode line in progress. -/

namespace Sys2Proof.Machine

/-! ## The scanline's beginning -/

/-- The number of the scanline's pixel row (R395). -/
def pixelRow (s : State) : Nat := s.antic.scanline - 8

/-- The state once the scanline's background row is put and its collision pass made. -/
def lineStart (s : State) : State := collisionPass (putRow (pixelRow s) (backgroundRow s.gtia.colbk) s)

theorem lineStart_antic (s : State) :
    (lineStart s).antic = { s.antic with fb := setRow s.antic.fb (pixelRow s) (backgroundRow s.gtia.colbk) } := rfl

/-- The scanline outside the visible window (R395). -/
theorem drawScanline_of_notVisible {s : State} (h : s.antic.scanline < 8 ∨ 248 ≤ s.antic.scanline) :
    drawScanline s = .next s := by
  have hidden : visibleScanline s.antic.scanline = false :=
    Bool.eq_false_iff.mpr fun visible => by have := (visibleScanline_iff _).mp visible; omega
  simp only [drawScanline, hidden, Bool.not_false, if_true]

section Visible

variable {s : State} (hfirst : 8 ≤ s.antic.scanline) (hlast : s.antic.scanline < 248)
include hfirst hlast

/-- The scanline inside the visible window (R395). -/
theorem drawScanline_of_visible : drawScanline s =
    if s.antic.idle then .next (lineStart s)
    else onNext (if s.antic.rowsLeft = 0 && s.antic.dlActive then processDisplayList (lineStart s) else .next (lineStart s))
      fun t => .next (drawLine (pixelRow s) (sampleColours s.gtia) t) := by
  rw [drawScanline, (visibleScanline_iff _).mpr ⟨hfirst, hlast⟩]
  rfl

/-- With display-list DMA off there is only the background (R374, R395). -/
theorem drawScanline_of_idle (hidle : s.antic.idle = true) : drawScanline s = .next (lineStart s) := by
  rw [drawScanline_of_visible hfirst hlast, if_pos hidle]

/-- A scanline on which an instruction is decoded. -/
theorem drawScanline_of_decode (hidle : s.antic.idle = false) (hrows : s.antic.rowsLeft = 0)
    (hactive : s.antic.dlActive = true) {d : State} (decode : processDisplayList (lineStart s) = .next d) :
    drawScanline s = .next (drawLine (pixelRow s) (sampleColours s.gtia) d) := by
  simp only [drawScanline_of_visible hfirst hlast, hidle, hrows, hactive, decode]
  rfl

/-- A scanline on which none is: a mode line is in progress, or the display list waits for the frame start. -/
theorem drawScanline_of_noDecode (hidle : s.antic.idle = false) (h : s.antic.rowsLeft ≠ 0 ∨ s.antic.dlActive = false) :
    drawScanline s = .next (drawLine (pixelRow s) (sampleColours s.gtia) (lineStart s)) := by
  have decodes : ¬ (s.antic.rowsLeft = 0 && s.antic.dlActive) = true := by
    obtain h | h := h <;> simp [h]
  rw [drawScanline_of_visible hfirst hlast, hidle, if_neg decodes]
  rfl

end Visible

/-! ## One scanline of the mode line in progress -/

/-- A scanline of a blank line, a jump or the wait for the frame start draws nothing over the background (R305 to R307). -/
theorem drawLine_of_background {s : State} (h : s.antic.rowsLeft = 0 ∨ s.antic.curMode.toNat < 2) (y : Nat)
    (k : LineColours) : drawLine y k s = s.setAntic { s.antic with
      rowInMode := s.antic.rowInMode + (if s.antic.rowsLeft = 0 then 0 else 1), rowsLeft := s.antic.rowsLeft - 1 } := by
  by_cases hrows : s.antic.rowsLeft = 0
  · have noRow : s.antic.rowsLeft - 1 = s.antic.rowsLeft := by omega
    rw [drawLine, if_pos hrows, if_pos hrows, noRow]
    rfl
  · have notDrawn : ¬ 2 ≤ s.antic.curMode.toNat := by omega
    simp only [drawLine, if_neg hrows, if_neg notDrawn, advanceRow]

/-- Where the memory scan goes after a drawn scanline (R397). -/
def nextMemscan (a : Antic) : Word :=
  if a.isChar = true ∧ a.rowsLeft ≠ 1 then a.memscan else a.memscan + BitVec.ofNat 16 a.stride

theorem advanceMemscan_eq (a : Antic) : advanceMemscan a = { a with memscan := nextMemscan a } := by
  unfold advanceMemscan nextMemscan
  by_cases h : a.isChar = true ∧ a.rowsLeft ≠ 1
  · rw [if_pos h, if_neg (by simpa using h)]
  · rw [if_neg h, if_pos (by simpa [Decidable.imp_iff_not_or] using h)]

/-- A drawn scanline of a mode line: the row counters, the scan pointer and one full pixel row (R395, R397). -/
theorem drawLine_of_modeLine {s : State} (hrows : s.antic.rowsLeft ≠ 0) (hmode : 2 ≤ s.antic.curMode.toNat) (y : Nat)
    (k : LineColours) : ∃ row, row.length = 384 ∧ (drawLine y k s).antic = { s.antic with
      rowsLeft := s.antic.rowsLeft - 1, rowInMode := s.antic.rowInMode + 1, memscan := nextMemscan s.antic
      fb := setRow s.antic.fb y row } := by
  obtain ⟨u, row, drawn, reads, length⟩ := drawModeLine_spec y k s hmode
  refine ⟨row, length, ?_⟩
  simp only [drawLine, if_neg hrows, if_pos hmode, drawn, advanceMemscan_eq, advanceRow, State.setAntic_antic, putRow_antic,
    reads.antic]
  rfl

end Sys2Proof.Machine

namespace Sys2Proof.Proofs

open Sys2Proof.Machine

/-- Settles O52: nothing is drawn over the background row, whose scanline is the one `lineStart` begins with. -/
theorem backgroundScanlines : Obligations.BackgroundScanlines := by
  unfold Obligations.BackgroundScanlines
  refine ⟨fun s hfirst hlast hline hidle => ?line, fun s hfirst hlast hidle hrows hactive => ?decode,
    fun s h => ?noDma⟩
  case line =>
    have mode : s.antic.rowsLeft = 0 ∨ s.antic.curMode.toNat < 2 :=
      hline.elim (fun ⟨_, blank⟩ => .inr blank) (fun ⟨noRow, _⟩ => .inl noRow)
    refine ⟨_, drawScanline_of_noDecode hfirst hlast hidle (hline.imp And.left And.right), ?_⟩
    rw [drawLine_of_background (s := lineStart s) mode, State.setAntic_antic, lineStart_antic, getRow_setRow]
    exact ⟨if_pos rfl, rfl, rfl, rfl, rfl⟩
  case decode =>
    obtain ⟨d, n, runs, -, decoded, -⟩ := processDisplayList_spec (lineStart s)
    refine ⟨d, _, runs, drawScanline_of_decode hfirst hlast hidle hrows hactive runs, fun hmode => ?_⟩
    rw [drawLine_of_background (.inr hmode)]
    refine ⟨rfl, decoded.memscan hmode, ?_⟩
    rw [State.setAntic_antic, decoded.fb, lineStart_antic, getRow_setRow]
    exact if_pos rfl
  case noDma =>
    by_cases visible : 8 ≤ s.antic.scanline ∧ s.antic.scanline < 248
    · obtain ⟨hfirst, hlast⟩ := visible
      have hidle : s.antic.idle = true := h.resolve_right (by omega)
      exact ⟨_, drawScanline_of_idle hfirst hlast hidle, rfl, rfl, rfl, rfl, rfl, rfl, rfl⟩
    · exact ⟨s, drawScanline_of_notVisible (by omega), rfl, rfl, rfl, rfl, rfl, rfl, rfl⟩

/-- Settles O53: a decoded mode line has all its rows before it, and each scanline of it draws one. -/
theorem modeLineScanlines : Obligations.ModeLineScanlines := by
  unfold Obligations.ModeLineScanlines
  refine ⟨fun s hfirst hlast hidle hrows hmode => ?line, fun s hfirst hlast hidle hrows hactive => ?decode⟩
  case line =>
    obtain ⟨row, length, antic⟩ := drawLine_of_modeLine (s := lineStart s) hrows hmode (pixelRow s) (sampleColours s.gtia)
    refine ⟨_, row, drawScanline_of_noDecode hfirst hlast hidle (.inl hrows), ?_⟩
    rw [antic, getRow_setRow]
    exact ⟨rfl, rfl, rfl, rfl, rfl, if_pos rfl, length⟩
  case decode =>
    obtain ⟨d, n, runs, -, decoded, -⟩ := processDisplayList_spec (lineStart s)
    refine ⟨d, _, runs, drawScanline_of_decode hfirst hlast hidle hrows hactive runs, fun hmode => ?_⟩
    obtain ⟨height, rows, first⟩ := decoded.rows hmode
    obtain ⟨row, length, antic⟩ := drawLine_of_modeLine (by omega) hmode (pixelRow s) (sampleColours s.gtia)
    refine ⟨height, rows, ?_, row, ?_, length⟩
    · rw [antic, nextMemscan, height, first]
    · rw [antic, getRow_setRow]
      exact if_pos rfl

end Sys2Proof.Proofs
end

section
/-! PROOF. Exceptions (`60_exceptions.md` R334 to R354): the entry of each kind, the check after an instruction, the IRQ request. -/

namespace Sys2Proof.Machine

/-- Every exception entry sets the interrupt-disable flag (R340). -/
theorem enterTrap_cpu_i (k : Trap) (s : State) : (enterTrap k s).cpu.i = true := by
  simp only [enterTrap, setPc_cpu, (read16_onlyReads _ _).cpu, State.setCpu_cpu]

/-! ## The interrupt check (R350) -/

/-- What the check finds: an interrupt request of the video coprocessor. -/
def nmiRequest (s : State) : Bool := (scanTick s).antic.pendingDli || (scanTick s).antic.pendingVbi

/-- What the check begins with: both requests taken (R392). -/
def requestsTaken (s : State) : State := (scanTick s).setAntic (takeRequests (scanTick s).antic)

/-- An NMI is entered when one is requested and none is in service (R351). -/
def nmiEnters (s : State) : Bool := nmiRequest s && !(scanTick s).orch.nmiInService

/-- After an NMI entry no IRQ is entered, because the entry has set `I` (R352). -/
theorem afterInstruction_of_nmi {s : State} (h : nmiEnters s = true) :
    afterInstruction s =
      charge 7 (enterTrap .nmi ((requestsTaken s).setOrch { (requestsTaken s).orch with nmiInService := true })) := by
  simp only [nmiEnters, nmiRequest] at h
  simp only [afterInstruction, requestsTaken, State.setAntic_orch, h, if_true, charge_cpu, enterTrap_cpu_i, Bool.not_true,
    Bool.false_and, Bool.false_eq_true, if_false]

/-- Without an NMI entry an IRQ is entered when `I` is clear and a source is pending. -/
theorem afterInstruction_of_noNmi {s : State} (h : nmiEnters s = false) :
    afterInstruction s =
      if !(scanTick s).cpu.i && irqPending (scanTick s).pokey then charge 7 (enterTrap .irq (requestsTaken s))
      else requestsTaken s := by
  simp only [nmiEnters, nmiRequest] at h
  simp only [afterInstruction, requestsTaken, State.setAntic_orch, State.setAntic_cpu, State.setAntic_pokey, h,
    Bool.false_eq_true, if_false]

theorem nmiEnters_eq_false {s : State} (h : nmiRequest s = false ∨ (scanTick s).orch.nmiInService = true) :
    nmiEnters s = false := by
  unfold nmiEnters
  obtain h | h := h <;> simp [h]

/-! ## The IRQ request (R334, R475) -/

/-- When no disabled source is pending, the pending sources are the enabled ones among them. -/
theorem irqPending_of_irqLegal {p : Pokey} (h : irqLegal p) : irqPending p = (p.irqst != 0xFF) := by
  obtain ⟨-, disabled⟩ := h
  have pending : ~~~p.irqst &&& p.irqen = ~~~p.irqst := by
    calc ~~~p.irqst &&& p.irqen
      _ = (~~~p.irqst &&& p.irqen) ||| (~~~p.irqst &&& ~~~p.irqen) := by rw [disabled]; exact BitVec.or_zero.symm
      _ = ~~~p.irqst &&& (p.irqen ||| ~~~p.irqen) := BitVec.and_or_distrib_left.symm
      _ = ~~~p.irqst := by rw [BitVec.or_not_self]; exact BitVec.and_allOnes
  have idle : ∀ v : Byte, (~~~v != 0) = (v != 0xFF) := by decide
  rw [irqPending, pending, idle]

end Sys2Proof.Machine

namespace Sys2Proof.Proofs

open Sys2Proof.Machine

/-- Settles O36: the entry of each kind with the register file as it is. -/
theorem exceptionEntry : Obligations.ExceptionEntry := by
  unfold Obligations.ExceptionEntry
  intro s k wf
  have entry := enterTrap_pushes wf s.cpu k 0
  cases k <;> exact entry

/-- Settles O37: with an NMI entry, and without one. -/
theorem interruptCheck : Obligations.InterruptCheck := by
  unfold Obligations.InterruptCheck
  intro s s0 request taken
  refine ⟨fun hrequest hservice => ?nmi, fun hnone hi hirq => ?irq, fun hnone hmasked => ?nothing⟩
  case nmi =>
    have enters : nmiEnters s = true := by
      rw [nmiEnters, show nmiRequest s = true from hrequest, hservice]
      rfl
    exact afterInstruction_of_nmi enters
  case irq =>
    rw [afterInstruction_of_noNmi (nmiEnters_eq_false hnone), hi, hirq]
    rfl
  case nothing =>
    have masked : ¬ (!s0.cpu.i && irqPending s0.pokey) = true := by
      obtain h | h := hmasked <;> simp [h]
    rw [afterInstruction_of_noNmi (nmiEnters_eq_false hnone), if_neg masked]
    rfl

/-- Settles O38: the first part is the definition, the second the invariant of O44. -/
theorem irqRequestIsStatus : Obligations.IrqRequestIsStatus := by
  unfold Obligations.IrqRequestIsStatus
  exact fun p legal => ⟨rfl, irqPending_of_irqLegal legal⟩

end Sys2Proof.Proofs
end

section
/-! PROOF. The registers of the video and colour coprocessors, of the sound coprocessor and of the adapter, by offset
(`61_video_coprocessor.md` R372 to R390; `62_color_graphics.md` R422 to R436; `63_sound.md` R452 to R476;
`64_peripheral_adapter.md` R492 to R503), and what the scan task writes to them. -/

namespace Sys2Proof.Machine

/-! ## Four like registers -/

/-- A written register of four, as a function of the index. -/
theorem Quad.set_eq_ofFn {α : Type} (q : Quad α) {i : Nat} (hi : i < 4) (v : α) :
    q.set i v = Quad.ofFn fun j => if j = i then v else q.get j := by
  interval_cases i <;> rfl

/-! ## The video coprocessor -/

/-- A word put together from two bytes, in integers. -/
theorem wordOfBytes_eq_ofNat (lo hi : Byte) : wordOfBytes lo hi = BitVec.ofNat 16 (hi.toNat * 256 + lo.toNat) := by
  rw [← wordOfBytes_toNat, BitVec.ofNat_toNat, BitVec.setWidth_eq]

/-- `VCOUNT` and `NMIST` are the registers that can be read (R372). -/
theorem anticRead_of_ne {o : Nat} (hvcount : o ≠ 0xB) (hnmist : o ≠ 0xF) (a : Antic) : anticRead o a = 0xFF := by
  unfold anticRead
  split
  case h_1 => exact absurd rfl hvcount
  case h_2 => exact absurd rfl hnmist
  case h_3 => rfl

/-- The two bytes of the display-list base (R376). -/
theorem anticWrite_dlist (v : Byte) (a : Antic) :
    anticWrite 0x2 v a = { a with dlist := BitVec.ofNat 16 (a.dlist.toNat / 256 * 256 + v.toNat) } ∧
    anticWrite 0x3 v a = { a with dlist := BitVec.ofNat 16 (v.toNat * 256 + a.dlist.toNat % 256) } := by
  rw [← hiByte_toNat, ← loByte_toNat, ← wordOfBytes_eq_ofNat, ← wordOfBytes_eq_ofNat]
  exact ⟨rfl, rfl⟩

/-- The advance of the scanline counter, with the vertical-blank request of the wrap written out (R390). -/
theorem nextScanline_eq (a : Antic) : nextScanline a =
    if a.scanline + 1 = 312 then
      { a with
        wsyncHalt := false, scanline := 0, dlPc := a.dlist, dlActive := true, rowsLeft := 0, rowInMode := 0, memscan := 0
        pendingVbi := a.pendingVbi || a.nmien.getLsbD 6
        nmist := if a.nmien.getLsbD 6 then a.nmist ||| 0x40 else a.nmist }
    else { a with wsyncHalt := false, scanline := a.scanline + 1 } := by
  simp only [nextScanline, raiseVbi_eq]
  rfl

/-! ## The colour coprocessor -/

section Groups

variable (g : Gtia) (v : Byte) {i : Nat} (hi : i < 4)
include hi

theorem gtiaRead_collisions :
    gtiaRead i g = g.mpf.get i &&& 0x0F ∧ gtiaRead (0x04 + i) g = g.ppf.get i &&& 0x0F ∧
    gtiaRead (0x08 + i) g = g.mpl.get i &&& 0x0F ∧ gtiaRead (0x0C + i) g = g.ppl.get i &&& 0x0F := by
  interval_cases i <;> exact ⟨rfl, rfl, rfl, rfl⟩

theorem gtiaRead_trigger : gtiaRead (0x10 + i) g = if g.trig.get i then 0x01 else 0x00 := by
  have bit : ∀ b : Bool, (BitVec.ofBool b).setWidth 8 = if b then (0x01 : Byte) else 0x00 := by decide
  rw [← bit]
  interval_cases i <;> rfl

theorem gtiaWrite_group :
    gtiaWrite i v g = { g with hposp := g.hposp.set i v } ∧ gtiaWrite (0x04 + i) v g = { g with hposm := g.hposm.set i v } ∧
    gtiaWrite (0x08 + i) v g = { g with sizep := g.sizep.set i v } ∧
    gtiaWrite (0x12 + i) v g = { g with colpm := g.colpm.set i v } ∧
    gtiaWrite (0x16 + i) v g = { g with colpf := g.colpf.set i v } := by
  interval_cases i <;> exact ⟨rfl, rfl, rfl, rfl, rfl⟩

end Groups

/-- Of the register writes only `HITCLR` touches the collision registers (R428, R430). -/
theorem gtiaWrite_collisions {o : Nat} (h : o ≠ 0x1E) (v : Byte) (g : Gtia) :
    (gtiaWrite o v g).mpf = g.mpf ∧ (gtiaWrite o v g).ppf = g.ppf ∧ (gtiaWrite o v g).mpl = g.mpl ∧
      (gtiaWrite o v g).ppl = g.ppl := by
  unfold gtiaWrite
  rw [if_neg h]
  split_ifs <;> exact ⟨rfl, rfl, rfl, rfl⟩

/-- A render pass adds to a register the bits of its draw below bit 4 (R398). -/
theorem getLsbD_orDraws (n first k : Nat) (q : Quad Byte) {i : Nat} (hi : i < 4) :
    ((orDraws n first q).get i).getLsbD k =
      ((q.get i).getLsbD k || (decide (k < 4) && (Config.collisionDraw n (first + i)).getLsbD k)) := by
  have low : (0x0F : Byte).getLsbD k = decide (k < 4) := by
    have byte : ∀ k < 8, (0x0F : Byte).getLsbD k = decide (k < 4) := by decide
    by_cases hk : k < 8
    · exact byte k hk
    · rw [BitVec.getLsbD_of_ge _ _ (by omega), decide_eq_false (by omega)]
  rw [orDraws, Quad.get_ofFn _ _ hi, BitVec.getLsbD_or, BitVec.getLsbD_and, low, Bool.and_comm]

/-! ## The sound coprocessor -/

section Channels

variable (p : Pokey) (v : Byte) (rate : Nat) {i : Nat} (hi : i < 4)
include hi

theorem pokeyWrite_divisor : pokeyWrite rate (2 * i) v p = recompute rate { p with audf := p.audf.set i v } := by
  interval_cases i <;> rfl

theorem pokeyWrite_control : pokeyWrite rate (2 * i + 1) v p = { p with audc := p.audc.set i v } := by
  interval_cases i <;> rfl

end Channels

/-- `RANDOM` in integers: the top eight bits of the long register selected (R457). -/
theorem randomValue_eq (p : Pokey) : randomValue p =
    if p.audctl.getLsbD 7 then BitVec.ofNat 8 (p.poly9.toNat / 2) else BitVec.ofNat 8 (p.poly17.toNat / 512) := by
  have shifted {w : Nat} (x : BitVec w) (k : Nat) : (x >>> k).setWidth 8 = BitVec.ofNat 8 (x.toNat / 2 ^ k) := by
    rw [← BitVec.ofNat_toNat, BitVec.toNat_ushiftRight, Nat.shiftRight_eq_div_pow]
  simp only [randomValue, shifted]
  rfl

/-- A key press, the three cases in one: a held key changes nothing (R476). -/
theorem setKey_pressed (code : Byte) (p : Pokey) : setKey code true p =
    if p.keyDown = true ∧ p.kbcode = code then p
    else { p with
      keyDown := true, kbcode := code, irqst := if p.irqen.getLsbD 6 then p.irqst &&& 0xBF else p.irqst } := by
  by_cases held : p.keyDown = true ∧ p.kbcode = code
  · obtain ⟨down, rfl⟩ := held
    simp only [setKey, if_true, down, bne_self_eq_false, Bool.not_true, Bool.or_self, Bool.false_eq_true, if_false,
      and_self]
    rw [← down]
  · have new : (!p.keyDown || p.kbcode != code) = true := by
      cases hdown : p.keyDown with
      | false => rfl
      | true => simpa [hdown] using held
    simp only [setKey, if_true, new, if_neg held]

/-! ## The console switches (R432) -/

/-- A press clears the switch's bit, a release sets it. -/
theorem getLsbD_setConsoleKey (key : ConsoleKey) (pressed : Bool) (g : Gtia) {j : Nat} (hj : j < 3) :
    (setConsoleKey key pressed g).consolIn.getLsbD j =
      if key.bit.getLsbD j then !pressed else g.consolIn.getLsbD j := by
  cases pressed with
  | true =>
    simp only [setConsoleKey, if_true, BitVec.getLsbD_and, BitVec.getLsbD_not, hj, decide_true, Bool.true_and]
    cases key.bit.getLsbD j <;> simp
  | false =>
    simp only [setConsoleKey, Bool.false_eq_true, if_false, BitVec.getLsbD_or]
    cases key.bit.getLsbD j <;> simp

/-! ## The adapter's data registers (R492, R493) -/

/-- A data write changes the bits that the direction register makes outputs. -/
theorem getLsbD_dataWrite (old ddr v : Byte) {k : Nat} (hk : k < 8) :
    ((old &&& ~~~ddr) ||| (v &&& ddr)).getLsbD k = if ddr.getLsbD k then v.getLsbD k else old.getLsbD k := by
  simp only [BitVec.getLsbD_or, BitVec.getLsbD_and, BitVec.getLsbD_not, hk, decide_true, Bool.true_and]
  cases ddr.getLsbD k <;> simp

end Sys2Proof.Machine

namespace Sys2Proof.Proofs

open Sys2Proof.Machine

/-- Settles O51: the two cases of the counter. -/
theorem scanlineCounter : Obligations.ScanlineCounter := by
  unfold Obligations.ScanlineCounter
  exact nextScanline_eq

/-- Settles O10: each unassigned offset, evaluated. -/
theorem unassignedOffsets : Obligations.UnassignedOffsets := by
  unfold Obligations.UnassignedOffsets
  refine ⟨fun g v => ⟨fun o hlow hhigh => ?_, fun o ho => ?_⟩, fun p v rate => ⟨fun o ho => ?_, fun o hlow hhigh => ?_⟩,
    fun a v o ho => ?_⟩
  · interval_cases o <;> rfl
  · obtain ⟨hlow, hhigh⟩ | ⟨hlow, hhigh⟩ | rfl := ho
    · interval_cases o <;> rfl
    · interval_cases o <;> rfl
    · rfl
  · obtain hhigh | ⟨hlow, hhigh⟩ := ho
    · interval_cases o <;> rfl
    · interval_cases o <;> rfl
  · interval_cases o <;> rfl
  · simp only [List.mem_cons, List.not_mem_nil, or_false] at ho
    obtain rfl | rfl | rfl | rfl := ho
    all_goals exact ⟨rfl, rfl⟩

/-- Settles O60: the registers one by one; those in groups of four by their index. -/
theorem assignedOffsets : Obligations.AssignedOffsets := by
  unfold Obligations.AssignedOffsets
  refine ⟨fun a v => ?antic, fun g v i hi => ?gtia, fun p v rate i hi => ?pokey⟩
  case antic =>
    obtain ⟨dlistLow, dlistHigh⟩ := anticWrite_dlist v a
    exact ⟨rfl, rfl, fun o hvcount hnmist => anticRead_of_ne hvcount hnmist a, rfl, rfl, dlistLow, dlistHigh, rfl, rfl, rfl,
      rfl, rfl, rfl, rfl, rfl⟩
  case gtia =>
    have put (q : Quad Byte) := Quad.set_eq_ofFn q hi v
    obtain ⟨mpf, ppf, mpl, ppl⟩ := gtiaRead_collisions g hi
    obtain ⟨hposp, hposm, sizep, colpm, colpf⟩ := gtiaWrite_group g v hi
    simp only [put] at hposp hposm sizep colpm colpf
    exact ⟨mpf, ppf, mpl, ppl, gtiaRead_trigger g hi, rfl, (BitVec.ofNat_toNat 8 g.consolIn).symm, hposp, hposm, sizep, rfl,
      colpm, colpf, rfl, rfl⟩
  case pokey =>
    have put (q : Quad Byte) := Quad.set_eq_ofFn q hi v
    have divisor := pokeyWrite_divisor p v rate hi
    have control := pokeyWrite_control p v rate hi
    rw [put] at divisor control
    exact ⟨rfl, congrArg (·, polyStep p) (randomValue_eq (polyStep p)), rfl, rfl, divisor, control, rfl, rfl,
      by rw [show v ^^^ 0xFF = ~~~v from BitVec.xor_allOnes]; rfl, rfl⟩

/-- Settles O54: the draws are ORed in, and of the register writes only `HITCLR` reaches the collision registers. -/
theorem collisionsAccumulate : Obligations.CollisionsAccumulate := by
  unfold Obligations.CollisionsAccumulate
  intro g n o i k v hi
  have mpf := getLsbD_orDraws n 0 k g.mpf hi
  have ppf := getLsbD_orDraws n 4 k g.ppf hi
  have mpl := getLsbD_orDraws n 8 k g.mpl hi
  have ppl := getLsbD_orDraws n 12 k g.ppl hi
  rw [Nat.zero_add] at mpf
  refine ⟨fun f hf => ?_, mpf, ppf, mpl, ppl⟩
  have kept {old new draw : Bool} (h : new = (old || draw)) (hold : old = true) : new = true := by rw [h, hold]; rfl
  have other := fun h : o ≠ 0x1E => gtiaWrite_collisions h v g
  simp only [List.mem_cons, List.not_mem_nil, or_false] at hf
  obtain rfl | rfl | rfl | rfl := hf
  · exact ⟨kept mpf, fun h => let ⟨same, _, _, _⟩ := other h; same, Quad.get_all 0 i⟩
  · exact ⟨kept ppf, fun h => let ⟨_, same, _, _⟩ := other h; same, Quad.get_all 0 i⟩
  · exact ⟨kept mpl, fun h => let ⟨_, _, same, _⟩ := other h; same, Quad.get_all 0 i⟩
  · exact ⟨kept ppl, fun h => let ⟨_, _, _, same⟩ := other h; same, Quad.get_all 0 i⟩

/-- Settles O55: each setter, bit by bit. -/
theorem inputLatches : Obligations.InputLatches := by
  unfold Obligations.InputLatches
  refine ⟨fun p up down left right => ?joystick, fun g i pressed j hj => ?trigger, fun g pressed j hj => ?console,
    fun p code => ⟨rfl, setKey_pressed code p⟩⟩
  case joystick =>
    have bits : ∀ up down left right : Bool,
        (0xF#4 ++ (BitVec.ofBool (!right) ++ (BitVec.ofBool (!left) ++ (BitVec.ofBool (!down) ++ BitVec.ofBool (!up)))) : Byte)
          = BitVec.ofNat 8 (240 + (!right).toNat * 8 + (!left).toNat * 4 + (!down).toNat * 2 + (!up).toNat) := by decide
    rw [← bits]
    rfl
  case trigger => exact Quad.get_set g.trig (!pressed) i.toNat j i.isLt hj
  case console =>
    have bits : ∀ j < 3, (ConsoleKey.start.bit.getLsbD j = decide (j = 0)) ∧
        (ConsoleKey.select.bit.getLsbD j = decide (j = 1)) ∧ (ConsoleKey.option.bit.getLsbD j = decide (j = 2)) := by decide
    obtain ⟨start, select, option⟩ := bits j hj
    simp only [getLsbD_setConsoleKey _ _ _ hj, start, select, option, decide_eq_true_eq, and_self]

/-- Settles O56: control bit 2 selects direction or data. -/
theorem adapterPorts : Obligations.AdapterPorts := by
  unfold Obligations.AdapterPorts
  intro p v k hk
  refine ⟨rfl, rfl, rfl, rfl, fun h => ?directionA, fun h => ?directionB, fun h => ?dataA, fun h => ?dataB⟩
  case directionA => simp only [piaRead, piaWrite, h, Bool.false_eq_true, if_false, and_self]
  case directionB => simp only [piaRead, piaWrite, h, Bool.false_eq_true, if_false, and_self]
  case dataA =>
    simp only [piaRead, piaWrite, h, if_true, getLsbD_dataWrite _ _ _ hk, and_true]
    rw [BitVec.or_comm, getLsbD_dataWrite _ _ _ hk]
  case dataB => simp only [piaRead, piaWrite, h, if_true, getLsbD_dataWrite _ _ _ hk, and_self]

end Sys2Proof.Proofs
end

section
/-! PROOF. The sound coprocessor's noise and sound (`63_sound.md` R457 to R468): the noise registers, the count of samples, the
periods and a pure tone. -/

namespace Sys2Proof.Machine

/-! ## The noise registers (R462) -/

/-- The new top bit, in integers: the sum of two bits, modulo 2. -/
theorem toNat_xor_getLsbD {w : Nat} (t : Nat) (p : BitVec w) :
    (p.getLsbD 0 ^^ p.getLsbD t).toNat = (p.toNat % 2 + p.toNat / 2 ^ t % 2) % 2 := by
  have bit (k : Nat) : p.getLsbD k = decide (p.toNat / 2 ^ k % 2 = 1) := Nat.testBit_eq_decide_div_mod_eq
  rw [bit 0, bit t, Nat.pow_zero, Nat.div_one]
  obtain h0 | h0 := Nat.mod_two_eq_zero_or_one p.toNat <;>
    obtain ht | ht := Nat.mod_two_eq_zero_or_one (p.toNat / 2 ^ t) <;> rw [h0, ht] <;> rfl

/-- One step of a noise register in integers: its half, plus the new bit at the top. -/
theorem toNat_lfsrStep {w : Nat} (t : Nat) (p : BitVec w) (hw : 0 < w) :
    (lfsrStep t p).toNat = p.toNat / 2 + (p.toNat % 2 + p.toNat / 2 ^ t % 2) % 2 * 2 ^ (w - 1) := by
  have width : 2 ^ w = 2 ^ (w - 1) * 2 := by rw [← Nat.pow_succ, Nat.succ_eq_add_one, Nat.sub_add_cancel hw]
  have half : p.toNat / 2 < 2 ^ (w - 1) := by
    have := p.isLt
    omega
  have top (b : Bool) : ((BitVec.ofBool b).setWidth w <<< (w - 1)).toNat = 2 ^ (w - 1) * b.toNat := by
    have pos : 0 < 2 ^ (w - 1) := Nat.two_pow_pos _
    cases b with
    | false => simp
    | true =>
      rw [BitVec.toNat_shiftLeft, BitVec.toNat_setWidth, Nat.shiftLeft_eq]
      show 1 % 2 ^ w * 2 ^ (w - 1) % 2 ^ w = 2 ^ (w - 1) * 1
      have one : 1 % 2 ^ w = 1 := Nat.mod_eq_of_lt (by omega)
      rw [one, Nat.one_mul, Nat.mod_eq_of_lt (by omega), Nat.mul_one]
  rw [lfsrStep, BitVec.toNat_or, BitVec.toNat_ushiftRight, Nat.shiftRight_one, top, Nat.or_comm,
    ← Nat.two_pow_add_eq_or_of_lt half, toNat_xor_getLsbD, Nat.mul_comm, Nat.add_comm]

/-- A step loses nothing: the shifted bits are kept, and the lost bit follows from the new one and the tapped one. -/
theorem lfsrStep_injective {w t : Nat} (ht : 0 < t) (htw : t < w) {p q : BitVec w} (h : lfsrStep t p = lfsrStep t q) :
    p = q := by
  have shifted (k : Nat) (hk : k + 1 < w) : p.getLsbD (k + 1) = q.getLsbD (k + 1) := by
    have bits := congrArg (BitVec.getLsbD · k) h
    simpa only [getLsbD_lfsrStep t _ (show k < w by omega), if_neg (show k ≠ w - 1 by omega)] using bits
  have tap : p.getLsbD t = q.getLsbD t := by
    obtain ⟨j, rfl⟩ := Nat.exists_eq_add_one.mpr ht
    exact shifted j htw
  have low : p.getLsbD 0 = q.getLsbD 0 := by
    have bits := congrArg (BitVec.getLsbD · (w - 1)) h
    simp only [getLsbD_lfsrStep t _ (show w - 1 < w by omega), if_true, tap] at bits
    exact Bool.xor_left_inj.mp bits
  refine BitVec.eq_of_getLsbD_eq fun k hk => ?_
  cases k with
  | zero => exact low
  | succ k => exact shifted k hk

/-! ## The count of samples (R466) -/

theorem sampleStep_sampleIndex (cadence : Nat) (p : Pokey) :
    (sampleStep cadence p).sampleIndex = p.sampleIndex + 1 := by
  unfold sampleStep
  dsimp only
  split <;> rfl

theorem sampleSteps_sampleIndex (cadence n : Nat) (p : Pokey) :
    (sampleSteps cadence n p).sampleIndex = p.sampleIndex + n := by
  induction n generalizing p with
  | zero => rfl
  | succ n ih =>
    rw [sampleSteps, ih, sampleStep_sampleIndex]
    omega

/-- The top-up brings the index to its target and never back. -/
theorem topUp_sampleIndex (perFrame cadence n : Nat) (p : Pokey) :
    (topUp perFrame cadence n p).sampleIndex = max p.sampleIndex (topUpTarget perFrame n) := by
  rw [topUp, sampleSteps_sampleIndex]
  omega

/-- The last scanline's target is the whole frame. -/
theorem topUpTarget_last (perFrame : Nat) : topUpTarget perFrame 311 = perFrame :=
  Nat.mul_div_cancel_left perFrame (by decide)

/-! ## The periods (R461) -/

theorem joinedChannel_iff (c : Byte) (i : Nat) :
    joinedChannel c i = true ↔ (i = 0 ∧ c.getLsbD 4 = true) ∨ (i = 2 ∧ c.getLsbD 3 = true) := by
  simp only [joinedChannel, Bool.or_eq_true, Bool.and_eq_true, beq_iff_eq]

theorem fastChannel_iff (c : Byte) (i : Nat) :
    fastChannel c i = true ↔ (i = 0 ∧ c.getLsbD 6 = true) ∨ (i = 2 ∧ c.getLsbD 5 = true) := by
  simp only [fastChannel, Bool.or_eq_true, Bool.and_eq_true, beq_iff_eq]

/-- The half cycles of a channel from its divisor, the channel's own or its pair's. -/
theorem halfCycles_eq (audf : Quad Byte) (c : Byte) (i : Nat) {n half : Nat}
    (hjoined : joinedChannel c i = true → n = (audf.get (i + 1)).toNat * 256 + (audf.get i).toNat)
    (hsingle : ¬ joinedChannel c i = true → n = (audf.get i).toNat)
    (hfastJoined : fastChannel c i = true → joinedChannel c i = true → half = n + 7)
    (hfastSingle : fastChannel c i = true → ¬ joinedChannel c i = true → half = n + 4)
    (hslow : ¬ fastChannel c i = true → half = (n + 1) * if c.getLsbD 0 then 114 else 28) :
    halfCycles audf c i = half := by
  by_cases joined : joinedChannel c i = true
  · by_cases fast : fastChannel c i = true
    · simp only [halfCycles, if_pos joined, if_pos fast, hfastJoined fast joined, hjoined joined]
    · simp only [halfCycles, if_pos joined, if_neg fast, hslow fast, hjoined joined]
  · by_cases fast : fastChannel c i = true
    · simp only [halfCycles, if_neg joined, if_pos fast, hfastSingle fast joined, hsingle joined]
    · simp only [halfCycles, if_neg joined, if_neg fast, hslow fast, hsingle joined]

theorem recompute_audf (rate : Nat) (p : Pokey) : (recompute rate p).audf = p.audf := by rw [recompute]

theorem recompute_audctl (rate : Nat) (p : Pokey) : (recompute rate p).audctl = p.audctl := by rw [recompute]

theorem recompute_period (rate : Nat) (p : Pokey) :
    (recompute rate p).period = Quad.ofFn fun i => periodOf rate (halfCycles p.audf p.audctl i) := rfl

/-- The periods depend on the divisors and on `AUDCTL` only, so computing them again gives the same. -/
theorem recompute_recompute_period (rate : Nat) (p : Pokey) :
    (recompute rate (recompute rate p)).period = (recompute rate p).period := by
  rw [recompute_period, recompute_audf, recompute_audctl, recompute_period]

/-! ## A pure tone (R464, R465) -/

/-- The two fields of a control byte: the distortion code and the volume. -/
theorem audc_fields (v : Byte) : (v.extractLsb' 5 3).toNat = v.toNat / 32 ∧ (v.extractLsb' 0 4).toNat = v.toNat % 16 := by
  revert v
  decide

/-- One sample of a channel in pure tone: the divider steps, the square wave toggles on its underflow, and the volume shows while
the wave is high. -/
theorem channelSample_pureTone {p : Pokey} {i : Nat} (henabled : disabledChannel p.audctl i = false)
    (hfilter : highPass p.audctl i = false) (hvolume : (p.audc.get i).getLsbD 4 = false)
    (hcode : (p.audc.get i).toNat / 32 = 5) :
    let wave := if p.divcnt.get i ≤ 0 then !(p.sq.get i) else p.sq.get i
    let level : Int := if wave then (((p.audc.get i).toNat % 16 : Nat) : Int) else 0
    channelSample p i = {
      divcnt := if p.divcnt.get i ≤ 0 then p.divcnt.get i - 1 + p.period.get i else p.divcnt.get i - 1
      sq := wave, last := level, out := level } := by
  obtain ⟨code, volume⟩ := audc_fields (p.audc.get i)
  have underflow : p.divcnt.get i - 1 < 0 ↔ p.divcnt.get i ≤ 0 := by omega
  simp only [channelSample, henabled, hfilter, hvolume, code, volume, hcode, gate, underflow, decide_eq_true_eq,
    Bool.and_true, Bool.false_eq_true, if_false]

end Sys2Proof.Machine

namespace Sys2Proof.Proofs

open Sys2Proof.Machine

/-- Settles O57: the step of one register in integers and bit by bit; the eight bytes by evaluation. -/
theorem noiseRegisters : Obligations.NoiseRegisters := by
  unfold Obligations.NoiseRegisters
  refine ⟨fun p => ⟨toNat_lfsrStep _ p.poly4 (by decide), toNat_lfsrStep _ p.poly5 (by decide),
      toNat_lfsrStep _ p.poly9 (by decide), toNat_lfsrStep _ p.poly17 (by decide), rfl⟩,
    fun p => noiseLegal_polyStep, fun w t p q ht htw => lfsrStep_injective ht htw,
    fun w t p k _ hk => getLsbD_lfsrStep t p hk, rfl⟩

/-- Settles O58: one sample for each turn of the loop. -/
theorem samplesPerFrame : Obligations.SamplesPerFrame := by
  unfold Obligations.SamplesPerFrame
  exact fun perFrame cadence n p => ⟨topUp_sampleIndex perFrame cadence n p, topUpTarget_last perFrame⟩

/-- Settles O59: the formula of the periods, and the pure tone's one sample. -/
theorem soundChannels : Obligations.SoundChannels := by
  unfold Obligations.SoundChannels
  refine ⟨fun p rate i hi => ?period, fun p rate o v ho => ?write, fun p i _ henabled hfilter hvolume hcode => ?tone⟩
  case period =>
    simp only [← joinedChannel_iff, ← fastChannel_iff]
    intro n half hjoined hsingle hfastJoined hfastSingle hslow
    rw [recompute_period, Quad.get_ofFn _ _ hi, halfCycles_eq p.audf p.audctl i hjoined hsingle hfastJoined hfastSingle hslow]
    exact ⟨rfl, periodOf_pos rate half⟩
  case write =>
    simp only [List.mem_cons, List.not_mem_nil, or_false] at ho
    obtain rfl | rfl | rfl | rfl | rfl := ho
    all_goals exact (recompute_recompute_period rate _).symm
  case tone =>
    rw [channelSample_pureTone henabled hfilter hvolume hcode]
    exact ⟨rfl, rfl, rfl, rfl⟩

end Sys2Proof.Proofs
end

section
/-! PROOF. Reset and the host's operations (`65_orchestrator.md` R525, R526; `70_reset_and_hazards.md` R540 to R550). -/

namespace Sys2Proof.Machine

/-! ## The reset vector (R341, R541) -/

/-- With nothing scheduled and both bytes outside the register window, a word is read from the map, and nothing changes. -/
theorem read16_quiet {s : State} (hscan : s.scan = []) {a : Word} (hlow : inIoWindow a = false)
    (hhigh : inIoWindow (a + 1) = false) : read16 a s = (wordOfBytes (storeByte s a) (storeByte s (a + 1)), s) := by
  simp only [read16, memRead_store hlow, memRead_store hhigh, scanTick_quiet hscan]

/-- Once the adapter is reset, the vector's two bytes are the OS image's (R542). -/
theorem storeByte_vecReset {s : State} (hpia : s.pia = .reset) :
    storeByte s Config.vecReset = osByte s 0x3FFC ∧ storeByte s (Config.vecReset + 1) = osByte s 0x3FFD := by
  simp only [storeByte, hpia]
  exact ⟨rfl, rfl⟩

theorem read16_vecReset {s : State} (hscan : s.scan = []) (hpia : s.pia = .reset) :
    read16 Config.vecReset s = (wordOfBytes (osByte s 0x3FFC) (osByte s 0x3FFD), s) := by
  obtain ⟨hlow, hhigh⟩ := storeByte_vecReset hpia
  rw [read16_quiet hscan (by decide) (by decide), hlow, hhigh]

/-! ## The machine reset (R540) -/

/-- The chips and the orchestrator reset, the CPU not yet (R543 to R547). -/
def chipsReset (s : State) : State := { s with
  antic := { Antic.reset with fb := s.antic.fb }, gtia := Gtia.reset s.params
  pokey := { Pokey.reset with samples := s.pokey.samples }, pia := Pia.reset, orch := Orch.reset }

theorem hostReset_eq_cpuReset (free : Cpu) (s : State) : hostReset free s = cpuReset free (chipsReset s) := rfl

/-- A machine reset with no scan-task event due, field by field. -/
theorem hostReset_eq {s : State} (hscan : s.scan = []) (free : Cpu) : hostReset free s =
    (chipsReset s).setCpu { free with pc := wordOfBytes (osByte s 0x3FFC) (osByte s 0x3FFD), i := true } := by
  rw [hostReset_eq_cpuReset, cpuReset, read16_vecReset (s := chipsReset s) hscan rfl]
  rfl

/-! ## The state after reset (R541 to R547) -/

theorem anticLegal_reset : anticLegal .reset := ⟨by decide, by decide, rfl⟩

theorem collisionsLegal_reset (p : Params) : collisionsLegal (.reset p) := fun i _ => by
  simp only [Gtia.reset, Quad.get_all]
  decide

theorem noiseLegal_reset : noiseLegal .reset :=
  ⟨by decide, by decide, by decide, by decide, fun i _ => (Quad.get_all (1 : Nat) i).ge⟩

theorem chipsLegal_reset : ChipsLegal .reset where
  antic := anticLegal_reset
  collisions := collisionsLegal_reset .default
  noise := noiseLegal_reset
  irq := ⟨by decide, by decide⟩
  control := ⟨by decide, by decide⟩

end Sys2Proof.Machine

namespace Sys2Proof.Proofs

open Sys2Proof.Machine

/-- Settles O47: the reset vector lies in the OS image, which shows once the adapter is reset; blank, it reads 0xFFFF. -/
theorem hostActions : Obligations.HostActions := by
  unfold Obligations.HostActions
  intro s free a v wf
  refine ⟨fun hscan => hostReset_eq hscan free, ?_, ramByte_writeRam (ram_wf_of_memoryWf wf) a v, rfl, rfl⟩
  rw [hostReset_eq (s := State.reset) rfl]
  rfl

/-- Settles O45: the memories are empty, the chips' values are those of their reset rules. -/
theorem resetMeetsInvariants : Obligations.ResetMeetsInvariants := by
  unfold Obligations.ResetMeetsInvariants
  exact ⟨rfl, chipsLegal_reset⟩

/-- Settles O48: PC is the vector's word, the other values are written out. -/
theorem resetValues : Obligations.ResetValues := by
  unfold Obligations.ResetValues
  have pc : State.reset.cpu.pc = (read16 Config.vecReset State.reset).1 := by
    rw [read16_vecReset rfl rfl]
    rfl
  exact ⟨rfl, pc, rfl, rfl, rfl, rfl, rfl, fun _ => rfl, rfl, rfl, rfl, rfl, rfl, rfl⟩

end Sys2Proof.Proofs
end

section
/-! PROOF. The turn from one scanline to the next (`65_orchestrator.md` R510 to R515): what it leaves of the state a program can
reach, the counters, and the end of a WSYNC halt. -/

namespace Sys2Proof.Machine

/-! ## What a program can reach -/

/-- `t` has the registers, the memory and the arguments of `s`, the adapter's but for the joystick and the colour coprocessor's
registers but for collisions and input latches. -/
structure LeavesProgram (s t : State) : Prop where
  cpu : t.cpu = s.cpu
  ram : t.ram = s.ram
  params : t.params = s.params
  pia : t.pia = { s.pia with portaIn := t.pia.portaIn }
  gtia : t.gtia = { s.gtia with
    mpf := t.gtia.mpf, ppf := t.gtia.ppf, mpl := t.gtia.mpl, ppl := t.gtia.ppl, trig := t.gtia.trig
    consolIn := t.gtia.consolIn }

theorem LeavesProgram.refl (s : State) : LeavesProgram s s := ⟨rfl, rfl, rfl, rfl, rfl⟩

theorem LeavesProgram.trans {s t u : State} (h : LeavesProgram s t) (k : LeavesProgram t u) : LeavesProgram s u where
  cpu := k.cpu.trans h.cpu
  ram := k.ram.trans h.ram
  params := k.params.trans h.params
  pia := by have e := k.pia; rw [h.pia] at e; exact e
  gtia := by have e := k.gtia; rw [h.gtia] at e; exact e

/-- Reads, whatever the video coprocessor does besides. -/
theorem LeavesProgram.of_onlyReads {s t : State} (h : OnlyReads s { t with antic := s.antic }) : LeavesProgram s t where
  cpu := h.cpu
  ram := h.ram
  params := h.params
  pia := h.pia
  gtia := by have e : t.gtia = { s.gtia with trig := t.gtia.trig, consolIn := t.gtia.consolIn } := h.gtia; rw [e]

theorem scanTick_leavesProgram (s : State) : LeavesProgram s (scanTick s) :=
  have reads := (scanTick_onlyLatches s).onlyReads
  .of_onlyReads ⟨reads.cpu, reads.ram, rfl, reads.gtia, reads.pokey, reads.pia, reads.orch, reads.params,
    reads.collisionPass, reads.sinks⟩

theorem lineStart_leavesProgram (s : State) : LeavesProgram s (lineStart s) := ⟨rfl, rfl, rfl, rfl, rfl⟩

/-! ## Drawing -/

/-- The scanline decodes an instruction of the display list (R395). -/
def decodesOn (a : Antic) : Prop :=
  8 ≤ a.scanline ∧ a.scanline < 248 ∧ a.idle = false ∧ a.rowsLeft = 0 ∧ a.dlActive = true

/-- What drawing a scanline leaves as it was, and the cycles of a decode. -/
structure Draws (s t : State) : Prop where
  program : LeavesProgram s t
  orch : t.orch = s.orch
  scanline : t.antic.scanline = s.antic.scanline
  decode : decodesOn s.antic → t.antic.dmaCycles = s.antic.dmaCycles + 1 ∨ t.antic.dmaCycles = s.antic.dmaCycles + 3
  noDecode : ¬ decodesOn s.antic → t.antic.dmaCycles = s.antic.dmaCycles

/-- Drawing the mode line's scanline leaves as much as what comes before it. -/
theorem Draws.drawLine {s t : State} (h : Draws s t) (y : Nat) (k : LineColours) : Draws s (drawLine y k t) := by
  obtain ⟨reads, antic⟩ := drawLine_spec y k t
  have dma : (Machine.drawLine y k t).antic.dmaCycles = t.antic.dmaCycles := by rw [antic]
  exact {
    program := h.program.trans (.of_onlyReads reads)
    orch := reads.orch.trans h.orch
    scanline := by rw [antic]; exact h.scanline
    decode := by rw [dma]; exact h.decode
    noDecode := by rw [dma]; exact h.noDecode }

theorem lineStart_draws {s : State} (h : ¬ decodesOn s.antic) : Draws s (lineStart s) where
  program := lineStart_leavesProgram s
  orch := rfl
  scanline := rfl
  decode := fun decodes => absurd decodes h
  noDecode := fun _ => rfl

theorem processDisplayList_draws {s : State} (h : decodesOn s.antic) :
    ∃ d, processDisplayList (lineStart s) = .next d ∧ Draws s d := by
  obtain ⟨d, n, runs, cycles, decoded, reads⟩ := processDisplayList_spec (lineStart s)
  have dma : d.antic.dmaCycles = s.antic.dmaCycles + n := decoded.dmaCycles
  exact ⟨d, runs, {
    program := (lineStart_leavesProgram s).trans (.of_onlyReads reads)
    orch := reads.orch
    scanline := decoded.scanline
    decode := fun _ => by obtain rfl | rfl := cycles <;> [exact .inl dma; exact .inr dma]
    noDecode := fun noDecode => absurd h noDecode }⟩

/-- Every scanline is drawn, whatever it shows. -/
theorem drawScanline_draws (s : State) : ∃ t, drawScanline s = .next t ∧ Draws s t := by
  by_cases visible : 8 ≤ s.antic.scanline ∧ s.antic.scanline < 248
  · obtain ⟨hfirst, hlast⟩ := visible
    by_cases decodes : decodesOn s.antic
    · obtain ⟨-, -, hidle, hrows, hactive⟩ := id decodes
      obtain ⟨d, runs, draws⟩ := processDisplayList_draws decodes
      exact ⟨_, drawScanline_of_decode hfirst hlast hidle hrows hactive runs, draws.drawLine _ _⟩
    · have draws := lineStart_draws decodes
      cases hidle : s.antic.idle with
      | true => exact ⟨_, drawScanline_of_idle hfirst hlast hidle, draws⟩
      | false =>
        have waits : s.antic.rowsLeft ≠ 0 ∨ s.antic.dlActive = false := by
          by_contra both
          simp only [not_or, not_not, Bool.not_eq_false] at both
          exact decodes ⟨hfirst, hlast, hidle, both⟩
        exact ⟨_, drawScanline_of_noDecode hfirst hlast hidle waits, draws.drawLine _ _⟩
  · refine ⟨s, drawScanline_of_notVisible (by omega), .refl s, rfl, rfl, fun decodes => ?_, fun _ => rfl⟩
    obtain ⟨hfirst, hlast, -⟩ := decodes
    exact absurd ⟨hfirst, hlast⟩ visible

/-! ## The end of the scanline (R513) -/

/-- The state in which the end-of-scanline step draws. -/
def lineEnd (s : State) : State := releaseWsync (scanTick (consumeLine s))

theorem endOfScanline_consumeLine (s : State) :
    endOfScanline (consumeLine s) = onNext (drawScanline (lineEnd s)) fun t => .next (finishScanline t) := rfl

theorem lineEnd_leavesProgram (s : State) : LeavesProgram s (lineEnd s) := by
  have consumed : LeavesProgram s (consumeLine s) := by
    unfold consumeLine
    split <;> exact ⟨rfl, rfl, rfl, rfl, rfl⟩
  have released (t : State) : LeavesProgram t (releaseWsync t) := ⟨rfl, rfl, rfl, rfl, rfl⟩
  exact (consumed.trans (scanTick_leavesProgram _)).trans (released _)

theorem lineEnd_antic (s : State) : (lineEnd s).antic = { s.antic with wsyncHalt := false } := by
  have consumed : (consumeLine s).antic = s.antic := by
    unfold consumeLine
    split <;> rfl
  rw [lineEnd, releaseWsync_antic, (scanTick_onlyLatches _).antic, consumed]

theorem lineEnd_nmiInService (s : State) : (lineEnd s).orch.nmiInService = s.orch.nmiInService := by
  rw [lineEnd, releaseWsync_orch, (scanTick_onlyLatches _).orch]
  unfold consumeLine
  split <;> rfl

/-- Of the video coprocessor only the scanline counter's advance. -/
theorem finishScanline_antic (s : State) : (finishScanline s).antic = nextScanline s.antic := by
  unfold finishScanline
  dsimp only
  split <;> rfl

theorem finishScanline_leavesProgram (s : State) : LeavesProgram s (finishScanline s) := by
  unfold finishScanline
  dsimp only
  split <;> exact ⟨rfl, rfl, rfl, rfl, rfl⟩

theorem nextScanline_wsyncHalt (a : Antic) : (nextScanline a).wsyncHalt = false := by rw [nextScanline_frame]

theorem nextScanline_dmaCycles (a : Antic) : (nextScanline a).dmaCycles = a.dmaCycles := by rw [nextScanline_frame]

/-- The counter advances modulo the scanlines of a frame (R390). -/
theorem nextScanline_scanline {a : Antic} (h : a.scanline < 312) : (nextScanline a).scanline = (a.scanline + 1) % 312 := by
  rw [nextScanline_eq]
  split
  case isTrue wrap => rw [wrap]
  case isFalse inside =>
    show a.scanline + 1 = _
    omega

/-- Inside a frame nothing is handed over. -/
theorem finishScanline_of_inside {s : State} (h : s.antic.scanline < 311) :
    finishScanline s = (topUpAudio s).setAntic (nextScanline s.antic) := by
  have inside : ¬ (nextScanline s.antic).scanline = 0 := by
    rw [nextScanline_scanline (by omega)]
    omega
  exact if_neg inside

/-- At the wrap of the counter the frame boundary follows (R515). -/
theorem finishScanline_of_wrap {s : State} (h : s.antic.scanline = 311) :
    finishScanline s = frameBoundary ((topUpAudio s).setAntic (nextScanline s.antic)) := by
  have wrap : (nextScanline s.antic).scanline = 0 := by
    rw [nextScanline_scanline (by omega), h]
  exact if_pos wrap

/-! ## The turn -/

/-- A step of a machine whose scanline is spent or halted is the turn. -/
theorem step_of_mayNotRun {s : State} (h : mayRun s = false) : step s = scanlineTurn s := by
  rw [step, h]
  rfl

/-- The turn answers a next state: the scanline is drawn, finished, and the next one starts. -/
theorem scanlineTurn_eq (s : State) : ∃ d, drawScanline (lineEnd s) = .next d ∧ Draws (lineEnd s) d ∧
    endOfScanline (consumeLine s) = .next (finishScanline d) ∧
    scanlineTurn s = .next (startScanline (finishScanline d)) := by
  obtain ⟨d, drawn, draws⟩ := drawScanline_draws (lineEnd s)
  refine ⟨d, drawn, draws, ?_, ?_⟩
  · rw [endOfScanline_consumeLine, drawn, onNext_of_next]
  · rw [scanlineTurn, endOfScanline_consumeLine, drawn, onNext_of_next, onNext_of_next]

/-- A WSYNC halt keeps the CPU from running (R512). -/
theorem mayRun_of_wsyncHalt {s : State} (h : s.antic.wsyncHalt = true) : mayRun s = false := by
  rw [mayRun, h, Bool.not_true, Bool.and_false]

/-- A write at offset 0xA of the video coprocessor's page, at any mirror, halts the CPU (R380). -/
theorem memWrite_wsync {a : Word} (hpage : a.toNat / 256 = 0xD4) (hoffset : a.toNat % 16 = 0xA) (v : Byte) (s : State) :
    (memWrite a v s).antic.wsyncHalt = true := by
  have window : inIoWindow a = true := (inIoWindow_iff a).mpr (by omega)
  obtain ⟨-, write⟩ := ioAccess_antic v (scanTick s) ((hiByte_eq_iff a Config.anticPage).mpr hpage)
  rw [memWrite_window window, write, hoffset]
  rfl

end Sys2Proof.Machine

namespace Sys2Proof.Proofs

open Sys2Proof.Machine

/-- Settles O49: drawing, the end of the scanline and the start of the next, each with what it leaves. -/
theorem scanlineTurn : Obligations.ScanlineTurn := by
  unfold Obligations.ScanlineTurn
  intro s hrun hscanline
  obtain ⟨d, -, draws, ends, turn⟩ := scanlineTurn_eq s
  have program := ((lineEnd_leavesProgram s).trans draws.program).trans (finishScanline_leavesProgram d)
  have counter : d.antic.scanline = s.antic.scanline := by rw [draws.scanline, lineEnd_antic]
  have dma : (finishScanline d).antic.dmaCycles = d.antic.dmaCycles := by
    rw [finishScanline_antic, nextScanline_dmaCycles]
  have service : d.orch.nmiInService = s.orch.nmiInService := by rw [draws.orch, lineEnd_nmiInService]
  have decode := draws.decode
  have noDecode := draws.noDecode
  rw [lineEnd_antic] at decode noDecode
  refine ⟨finishScanline d, startScanline (finishScanline d), ends, (step_of_mayNotRun hrun).trans turn, rfl,
    ⟨?decode, ?noDecode⟩, program.cpu, program.ram, program.params, program.pia, program.gtia, ?counter, ?halt, ?inside,
    ?wrap⟩
  case decode => rw [dma]; exact decode
  case noDecode => rw [dma]; exact noDecode
  case counter =>
    rw [startScanline_antic, finishScanline_antic]
    exact (nextScanline_scanline (counter ▸ hscanline)).trans (by rw [counter])
  case halt =>
    rw [startScanline_antic, finishScanline_antic]
    exact nextScanline_wsyncHalt d.antic
  case inside =>
    intro hinside
    rw [finishScanline_of_inside (counter ▸ hinside)]
    exact service
  case wrap =>
    intro hwrap
    rw [finishScanline_of_wrap (counter.trans hwrap)]
    exact ⟨rfl, rfl, rfl, rfl⟩

/-- Settles O50: the register write sets the halt, and the turn to the next scanline releases it. -/
theorem wsyncHaltsTheLine : Obligations.WsyncHaltsTheLine := by
  unfold Obligations.WsyncHaltsTheLine
  intro s a v hpage hoffset
  have halted := mayRun_of_wsyncHalt (memWrite_wsync hpage hoffset v s)
  refine ⟨halted, step_of_mayNotRun halted, fun t hstep => ?_⟩
  obtain ⟨d, -, -, -, turn⟩ := scanlineTurn_eq (memWrite a v s)
  rw [step_of_mayNotRun halted, turn] at hstep
  obtain rfl := Host.Outcome.next.inj hstep
  rw [startScanline_antic, finishScanline_antic]
  exact nextScanline_wsyncHalt d.antic

end Sys2Proof.Proofs
end
